-- ==== Sys2Proof/Word.lean ====
section
/-! DEFINITION. The word types of the core (spec/00_scope.md R5, R8): bytes, 32-bit words, 64-bit words, and the name
of a 32-bit half of a 64-bit register. Addition modulo `2^w` (R110) and the bitwise operations (R111) are `BitVec`'s own
`+`, `&&&`, `|||`, `^^^` and `~~~`. -/

namespace Sys2Proof

/-- One byte. -/
abbrev Byte := BitVec 8

/-- A 32-bit word: bus data, a command word, an MD5 or SHA-256 word. -/
abbrev Word32 := BitVec 32

/-- A 64-bit word: `LEN`, `ABS`, a state register, a SHA-512 word. -/
abbrev Word64 := BitVec 64

/-- Which 32-bit half of a 64-bit register an access names (R52: `_LO` and `_HI`). -/
inductive Half where
  | lo
  | hi
deriving DecidableEq, Repr

end Sys2Proof
end

