-- ==== Sys2Proof/Config.lean ====
section
/-! DEFINITION. What is fixed for one core: the algorithm names (spec/00_scope.md R4), the two open parameters
`WINDOW_BASE` and `LATENCY` (R7, spec/92_eei_decisions.md "Open parameters"), and the form of what the host sends
(spec/30_encoding.md R80, R88; spec/60_exceptions.md R340). -/

namespace Sys2Proof

/-- R4: the three algorithms. The code 3 is reserved and names none. -/
inductive Alg where
  | md5
  | sha256
  | sha512
deriving DecidableEq, Repr

/-- What `LATENCY` is asked about (spec/92_eei_decisions.md): a command, by its `OP` code, or a push that completes a
block. -/
inductive TimedOp where
  | command (op : BitVec 4)
  | blockPush
deriving DecidableEq, Repr

/-- The open part of `WINDOW_BASE` (R50): which 1024-byte slot of the platform's address space the window takes. -/
opaque Config.windowSlot : Nat

/-- R50: the platform address of the register window, aligned to 1024 bytes. -/
def Config.windowBase : Nat := 1024 * Config.windowSlot

/-- R7: clock cycles of an operation under an algorithm. No rule reads it, and no definition of this model does. -/
opaque Config.latency : TimedOp → Alg → Nat

/-- One host bus access (R51, R80, R87): its direction, its width in bits, its byte offset from `WINDOW_BASE` and, for a
write, its 32-bit data. Every width and every offset can be written down, so that the refused ones can be too. -/
inductive Access where
  | read (width offset : Nat)
  | write (width offset : Nat) (data : Word32)
deriving DecidableEq, Repr

/-- R80: the two kinds of host operation, a bus access and a command word. A command is R88's pseudo-operation
`CMD c = WR CMD, encode(c)`. -/
inductive HostOp where
  | access (a : Access)
  | command (cmd : Word32)
deriving DecidableEq, Repr

/-- What the outside may do to the core (R340, R370): issue an operation, or assert the reset input. -/
inductive HostMove where
  | op (o : HostOp)
  | reset
deriving DecidableEq, Repr

/-- The offset of a platform address that lies in the window (R50). An address outside it names no access of this
core. -/
def Config.offsetOf (platformAddress : Nat) : Option Nat :=
  if Config.windowBase ≤ platformAddress ∧ platformAddress < Config.windowBase + 1024 then
    some (platformAddress - Config.windowBase)
  else none

end Sys2Proof
end

