-- ==== Sys2Proof/Machine/Params.lean ====
section
/-! DEFINITION. The parameters each algorithm fixes (spec/00_scope.md R4, R5). -/

namespace Sys2Proof

/-- R4: the 2-bit code of an algorithm. -/
def Alg.code : Alg → BitVec 2
  | .md5 => 0
  | .sha256 => 1
  | .sha512 => 2

/-- R4: the algorithm of a 2-bit code; 3 is reserved. -/
def Alg.ofCode (code : BitVec 2) : Option Alg :=
  if code = 0 then some .md5
  else if code = 1 then some .sha256
  else if code = 2 then some .sha512
  else none

/-- R5: `w(alg)`, the word width in bits. -/
def Alg.wordBits : Alg → Nat
  | .md5 => 32
  | .sha256 => 32
  | .sha512 => 64

/-- R5: `nH(alg)`, the words of the hash state. -/
def Alg.stateWords : Alg → Nat
  | .md5 => 4
  | .sha256 => 8
  | .sha512 => 8

/-- R5: `bs(alg)`, the block size in bytes. -/
def Alg.blockSize : Alg → Nat
  | .md5 => 64
  | .sha256 => 64
  | .sha512 => 128

/-- R5: `nR(alg)`, the rounds of one block. -/
def Alg.rounds : Alg → Nat
  | .md5 => 64
  | .sha256 => 64
  | .sha512 => 80

/-- R5: `F(alg)`, the bytes of the length field. -/
def Alg.lenFieldBytes : Alg → Nat
  | .md5 => 8
  | .sha256 => 8
  | .sha512 => 16

/-- R5, R210: `THR(alg) = bs − 1 − F`, the longest tail that is padded within one block. -/
def Alg.threshold (alg : Alg) : Nat := alg.blockSize - 1 - alg.lenFieldBytes

/-- R5: `DLEN(alg) = nH·w/8`, the digest bytes. -/
def Alg.digestBytes (alg : Alg) : Nat := alg.stateWords * alg.wordBits / 8

/-- R5, R338: `MAXLEN(alg)`, the longest message the host's size guard lets through. The core never reads it. -/
def Alg.maxLen : Alg → Nat
  | .md5 => 2 ^ 64 - 1
  | .sha256 => 2 ^ 61 - 1
  | .sha512 => 2 ^ 64 - 1

end Sys2Proof
end

