-- ==== Sys2Proof/Machine/Bits.lean ====
section
/-! DEFINITION. The bit primitives and the word packing of spec/40_primitives.md (R112 to R120). A byte array is read
through a function from its index. -/

namespace Sys2Proof.Machine

/-- R112: rotate left, for `n < w`. -/
def rotl {w : Nat} (x : BitVec w) (n : Nat) : BitVec w := if n = 0 then x else x <<< n ||| x >>> (w - n)

/-- R113: rotate right, for `n < w`. -/
def rotr {w : Nat} (x : BitVec w) (n : Nat) : BitVec w := if n = 0 then x else x >>> n ||| x <<< (w - n)

/-- R114: logical shift right, filling with zeros. -/
def shr {w : Nat} (x : BitVec w) (n : Nat) : BitVec w := x >>> n

/-- R115: `pack_le32(X, j)`. -/
def packLe32 (x : Nat → Byte) (j : Nat) : Word32 :=
  (x (4 * j)).setWidth 32 ||| (x (4 * j + 1)).setWidth 32 <<< 8 ||| (x (4 * j + 2)).setWidth 32 <<< 16
    ||| (x (4 * j + 3)).setWidth 32 <<< 24

/-- R116: `pack_be32(X, j)`. -/
def packBe32 (x : Nat → Byte) (j : Nat) : Word32 :=
  (x (4 * j)).setWidth 32 <<< 24 ||| (x (4 * j + 1)).setWidth 32 <<< 16 ||| (x (4 * j + 2)).setWidth 32 <<< 8
    ||| (x (4 * j + 3)).setWidth 32

/-- R117: `pack_be64(X, j)`. The eight terms of the sum occupy disjoint bits. -/
def packBe64 (x : Nat → Byte) (j : Nat) : Word64 :=
  (x (8 * j)).setWidth 64 <<< 56 ||| (x (8 * j + 1)).setWidth 64 <<< 48 ||| (x (8 * j + 2)).setWidth 64 <<< 40
    ||| (x (8 * j + 3)).setWidth 64 <<< 32 ||| (x (8 * j + 4)).setWidth 64 <<< 24
    ||| (x (8 * j + 5)).setWidth 64 <<< 16 ||| (x (8 * j + 6)).setWidth 64 <<< 8 ||| (x (8 * j + 7)).setWidth 64

/-- R118: `bytes_le(v, w)`, least significant byte first. -/
def bytesLe {w : Nat} (v : BitVec w) : List Byte := (List.range (w / 8)).map fun t => v.extractLsb' (8 * t) 8

/-- R118: `bytes_be(v, w)`, "the same bytes, most significant first". -/
def bytesBe {w : Nat} (v : BitVec w) : List Byte := (bytesLe v).reverse

/-- R120: `lenfield(alg, L)`, the length field of the last padded block. -/
def lenField (alg : Alg) (len : Word64) : List Byte :=
  match alg with
  | .md5 => bytesLe (8 * len)
  | .sha256 => bytesBe (8 * len)
  | .sha512 => bytesBe (len >>> 61) ++ bytesBe (8 * len)

end Sys2Proof.Machine
end

