-- ==== Sys2Proof/Syntax.lean ====
section
/-! DEFINITION. The operations of the core: one constructor for each row of spec/opcode_table.json, in the table's
order. The command rows carry the fields of the command word (spec/30_encoding.md R81, R83), the bus rows the register
index their offset names (spec/20_memory.md R52) and the data of a write. -/

namespace Sys2Proof

/-- One operation of the host on the core. `alg` is the raw 2-bit field of `INIT` and `START`: the code 3 fits the
pattern and is rejected when the command runs (R84, R85). -/
inductive Instr where
  /-- `NOP` (R300) -/
  | nop
  /-- `INIT alg` (R301) -/
  | init (alg : BitVec 2)
  /-- `COMPRESS` (R302) -/
  | compress
  /-- `PAD r` (R212) -/
  | pad (r : Byte)
  /-- `START alg` (R241) -/
  | start (alg : BitVec 2)
  /-- `HEX digest[, delim]` (R274) -/
  | hexDigest (delim : Bool)
  /-- `HEX le[, delim]` (R275) -/
  | hexLe (delim : Bool)
  /-- `HEX be[, delim]` (R276) -/
  | hexBe (delim : Bool)
  /-- `HEX buf, n[, delim]` (R277) -/
  | hexBuf (n : Byte) (delim : Bool)
  /-- `WR CMD, data` (R85): the data is any 32-bit word -/
  | wrCmd (data : Word32)
  /-- `WR LEN_LO` and `WR LEN_HI` (R57) -/
  | wrLen (half : Half) (data : Word32)
  /-- `WR DATA8` (R243) -/
  | wrData8 (data : Word32)
  /-- `WR DATA32` (R244) -/
  | wrData32 (data : Word32)
  /-- `WR H_LO(i)` and `WR H_HI(i)` (R57) -/
  | wrH (i : Fin 8) (half : Half) (data : Word32)
  /-- `WR BUFW(k)` (R57) -/
  | wrBufw (k : Fin 32) (data : Word32)
  /-- `RD STATUS` (R33, R56) -/
  | rdStatus
  /-- `RD LEN_LO` and `RD LEN_HI` (R56) -/
  | rdLen (half : Half)
  /-- `RD ABS_LO` and `RD ABS_HI` (R56) -/
  | rdAbs (half : Half)
  /-- `RD FILL` (R56) -/
  | rdFill
  /-- `RD HEXLEN` (R56) -/
  | rdHexlen
  /-- `RD DLEN` (R56) -/
  | rdDlen
  /-- `RD H_LO(i)` and `RD H_HI(i)` (R56) -/
  | rdH (i : Fin 8) (half : Half)
  /-- `RD BUFW(k)` (R56) -/
  | rdBufw (k : Fin 32)
  /-- `RD DIGESTW(k)` (R56) -/
  | rdDigestw (k : Fin 16)
  /-- `RD HEXW(k)`, the table's row of offsets 0x200 to 0x2FC: k below 64 (R56) -/
  | rdHexw (k : Fin 96)
  /-- `RD HEXW(k)`, the table's row of offsets 0x300 to 0x37C: k from 64 to 95 (R56) -/
  | rdHexwHigh (k : Fin 96)
deriving DecidableEq, Repr

end Sys2Proof
end

