-- ==== Sys2Proof/WellFormed.lean ====
section
/-! DEFINITION. Which operations stand for an encoding. Every field of an `Instr` but one has exactly the range its
encoding gives it; the two `RD.HEXW` rows of spec/opcode_table.json share the register family `HEXW(0..95)` and split it
at 64. -/

namespace Sys2Proof

/-- The check: each `RD.HEXW` row holds an index of its own range. -/
def Instr.wellFormed : Instr → Bool
  | .rdHexw k => decide (k.val < 64)
  | .rdHexwHigh k => decide (64 ≤ k.val)
  | .nop => true
  | .init _ => true
  | .compress => true
  | .pad _ => true
  | .start _ => true
  | .hexDigest _ => true
  | .hexLe _ => true
  | .hexBe _ => true
  | .hexBuf _ _ => true
  | .wrCmd _ => true
  | .wrLen _ _ => true
  | .wrData8 _ => true
  | .wrData32 _ => true
  | .wrH _ _ _ => true
  | .wrBufw _ _ => true
  | .rdStatus => true
  | .rdLen _ => true
  | .rdAbs _ => true
  | .rdFill => true
  | .rdHexlen => true
  | .rdDlen => true
  | .rdH _ _ => true
  | .rdBufw _ => true
  | .rdDigestw _ => true

/-- An operation that some host operation encodes. -/
abbrev WellFormed (i : Instr) : Prop := i.wellFormed = true

end Sys2Proof
end

