-- ==== Sys2Proof/Decode.lean ====
section
/-! DEFINITION. From what the host sends to an operation, and back. The register map of the window (spec/20_memory.md
R52), the bus errors in their order (spec/60_exceptions.md R333), the fields and the nine forms of a command word
(spec/30_encoding.md R81 to R86), the encoder, the pseudo-operations (R89), and the reading of the opcode table's
words. -/

namespace Sys2Proof

/-- The causes of a rejected command (R331), in the order in which they are reported (R332). -/
inductive CmdError where
  | illegalOp
  | reservedBits
  | badAlg
  | badCount
  | badState
deriving DecidableEq, Repr

/-- The causes of a bus error (R333), in the order in which they are reported. -/
inductive BusError where
  | width
  | misaligned
  | unmapped
  | writeOnly
  | readOnly
deriving DecidableEq, Repr

/-- Why a host operation decodes to no `Instr`. -/
inductive Rejection where
  /-- the offset is not in `0x000 .. 0x3FF`: the access does not reach the core (R52) -/
  | outsideWindow (offset : Nat)
  /-- the window answers with an error response (R333) -/
  | bus (cause : BusError)
  /-- the command word fits no form (R84, R86): `illegalOp` or `reservedBits` -/
  | command (cause : CmdError)
deriving DecidableEq, Repr

/-! ### The register map -/

/-- The registers of R52. -/
inductive Reg where
  | cmd
  | status
  | len (half : Half)
  | data8
  | data32
  | abs (half : Half)
  | fill
  | hexlen
  | dlen
  | h (i : Fin 8) (half : Half)
  | bufw (k : Fin 32)
  | digestw (k : Fin 16)
  | hexw (k : Fin 96)
deriving DecidableEq, Repr

/-- The byte distance of a half from the register's own offset (R52: `_LO` first). -/
def halfOffset : Half → Nat
  | .lo => 0
  | .hi => 4

/-- R52, the column "offset". -/
def Reg.offset : Reg → Nat
  | .cmd => 0x000
  | .status => 0x004
  | .len half => 0x008 + halfOffset half
  | .data8 => 0x010
  | .data32 => 0x014
  | .abs half => 0x018 + halfOffset half
  | .fill => 0x020
  | .hexlen => 0x024
  | .dlen => 0x028
  | .h i half => 0x080 + 8 * i.val + halfOffset half
  | .bufw k => 0x100 + 4 * k.val
  | .digestw k => 0x180 + 4 * k.val
  | .hexw k => 0x200 + 4 * k.val

/-- The half that a word-aligned offset names, the low half standing at the multiples of 8. -/
def halfAt (offset : Nat) : Half := if offset % 8 = 0 then .lo else .hi

/-- R52 read from the offset to the register; `none` at a reserved offset (R53) and in the
stretch `0x0C0 .. 0x0FC`, which R52 gives no register (notes/assumptions/4.md). Word-aligned offsets only (R51). -/
def regAt (offset : Nat) : Option Reg :=
  if offset = 0x000 then some .cmd
  else if offset = 0x004 then some .status
  else if offset = 0x008 then some (.len .lo)
  else if offset = 0x00C then some (.len .hi)
  else if offset = 0x010 then some .data8
  else if offset = 0x014 then some .data32
  else if offset = 0x018 then some (.abs .lo)
  else if offset = 0x01C then some (.abs .hi)
  else if offset = 0x020 then some .fill
  else if offset = 0x024 then some .hexlen
  else if offset = 0x028 then some .dlen
  else if offset < 0x080 then none
  else if h : offset < 0x0C0 then some (.h ⟨(offset - 0x080) / 8, by omega⟩ (halfAt offset))
  else if offset < 0x100 then none
  else if h : offset < 0x180 then some (.bufw ⟨(offset - 0x100) / 4, by omega⟩)
  else if h : offset < 0x1C0 then some (.digestw ⟨(offset - 0x180) / 4, by omega⟩)
  else if offset < 0x200 then none
  else if h : offset < 0x380 then some (.hexw ⟨(offset - 0x200) / 4, by omega⟩)
  else none

/-- The operation of a 32-bit read of a register; `none` where the register is write-only (R54). -/
def readInstr : Reg → Option Instr
  | .cmd => none
  | .status => some .rdStatus
  | .len half => some (.rdLen half)
  | .data8 => none
  | .data32 => none
  | .abs half => some (.rdAbs half)
  | .fill => some .rdFill
  | .hexlen => some .rdHexlen
  | .dlen => some .rdDlen
  | .h i half => some (.rdH i half)
  | .bufw k => some (.rdBufw k)
  | .digestw k => some (.rdDigestw k)
  | .hexw k => if k.val < 64 then some (.rdHexw k) else some (.rdHexwHigh k)

/-- The operation of a 32-bit write of a register; `none` where the register is read-only (R54). -/
def writeInstr (data : Word32) : Reg → Option Instr
  | .cmd => some (.wrCmd data)
  | .status => none
  | .len half => some (.wrLen half data)
  | .data8 => some (.wrData8 data)
  | .data32 => some (.wrData32 data)
  | .abs _ => none
  | .fill => none
  | .hexlen => none
  | .dlen => none
  | .h i half => some (.wrH i half data)
  | .bufw k => some (.wrBufw k data)
  | .digestw _ => none
  | .hexw _ => none

/-- The register an access of this width and offset reaches, or the first cause that refuses it: outside the window
(R52), then the causes 1 to 3 of R333. -/
def target (width offset : Nat) : Except Rejection Reg :=
  if 0x400 ≤ offset then .error (.outsideWindow offset)
  else if width ≠ 32 then .error (.bus .width)
  else if offset % 4 ≠ 0 then .error (.bus .misaligned)
  else
    match regAt offset with
    | none => .error (.bus .unmapped)
    | some r => .ok r

/-- R87, R333: what one bus access asks for, or why it is refused. -/
def decodeAccess : Access → Except Rejection Instr
  | .read width offset =>
    match target width offset with
    | .error e => .error e
    | .ok r =>
      match readInstr r with
      | none => .error (.bus .writeOnly)
      | some i => .ok i
  | .write width offset data =>
    match target width offset with
    | .error e => .error e
    | .ok r =>
      match writeInstr data r with
      | none => .error (.bus .readOnly)
      | some i => .ok i

/-! ### The command word -/

/-- R82: `OP = cmd[3:0]`. -/
def cmdOp (cmd : Word32) : BitVec 4 := cmd.extractLsb' 0 4

/-- R82: `ALG = cmd[5:4]`. -/
def cmdAlg (cmd : Word32) : BitVec 2 := cmd.extractLsb' 4 2

/-- R82: `SRC = cmd[7:6]`. -/
def cmdSrc (cmd : Word32) : BitVec 2 := cmd.extractLsb' 6 2

/-- R82: `DELIM = cmd[8]`. -/
def cmdDelim (cmd : Word32) : Bool := cmd.getLsbD 8

/-- R82: `COUNT = cmd[23:16]`, unsigned. -/
def cmdCount (cmd : Word32) : Byte := cmd.extractLsb' 16 8

/-- R82: the reserved bits, `cmd[31:24] ‖ cmd[15:9]`. -/
def cmdRsv (cmd : Word32) : BitVec 15 := cmd.extractLsb' 24 8 ++ cmd.extractLsb' 9 7

/-- One row of R84's table of 32-bit patterns: a word has the form when `cmd & mask = pattern`. -/
structure CmdForm where
  pattern : Word32
  mask : Word32
  /-- the operation, its operands read from the fields of R82 -/
  build : Word32 → Instr

/-- R84: "A word matches a form when `(cmd & mask) = match`." -/
def CmdForm.fits (f : CmdForm) (cmd : Word32) : Bool := cmd &&& f.mask == f.pattern

/-- R84: the nine forms. -/
def cmdForms : List CmdForm :=
  [ ⟨0x00000000, 0xFFFFFFFF, fun _ => .nop⟩,
    ⟨0x00000001, 0xFFFFFFCF, fun c => .init (cmdAlg c)⟩,
    ⟨0x00000002, 0xFFFFFFFF, fun _ => .compress⟩,
    ⟨0x00000003, 0xFF00FFFF, fun c => .pad (cmdCount c)⟩,
    ⟨0x00000004, 0xFFFFFFCF, fun c => .start (cmdAlg c)⟩,
    ⟨0x00000005, 0xFFFFFEFF, fun c => .hexDigest (cmdDelim c)⟩,
    ⟨0x00000045, 0xFFFFFEFF, fun c => .hexLe (cmdDelim c)⟩,
    ⟨0x00000085, 0xFFFFFEFF, fun c => .hexBe (cmdDelim c)⟩,
    ⟨0x000000C5, 0xFF00FEFF, fun c => .hexBuf (cmdCount c) (cmdDelim c)⟩ ]

/-- R84, R86: the form of a command word. `OP` from 6 to 15 is `illegalOp` whatever the other bits; a word with a
smaller `OP` that fits no form has a must-be-zero bit set. The field values and the engine state are checked when the
command runs (R85). -/
def decodeCommand (cmd : Word32) : Except CmdError Instr :=
  if 6 ≤ (cmdOp cmd).toNat then .error .illegalOp
  else
    match cmdForms.find? (fun f => f.fits cmd) with
    | none => .error .reservedBits
    | some f => .ok (f.build cmd)

/-- The operation of one host operation, or why it has none. Total on every width, offset, direction and word. -/
def decode : HostOp → Except Rejection Instr
  | .access a => decodeAccess a
  | .command cmd =>
    match decodeCommand cmd with
    | .error e => .error (.command e)
    | .ok i => .ok i

/-! ### The encoder -/

/-- The 32-bit read of a register. -/
def readOf (r : Reg) : HostOp := .access (.read 32 r.offset)

/-- The 32-bit write of a register. -/
def writeOf (r : Reg) (data : Word32) : HostOp := .access (.write 32 r.offset data)

/-- `DELIM << 8` (R274 to R277). -/
def delimBits (delim : Bool) : Word32 := if delim then 0x00000100 else 0x00000000

/-- R88's encodings of the commands, and the access of each bus row (R52, R80). -/
def encode : Instr → HostOp
  | .nop => .command 0x00000000
  | .init alg => .command (0x00000001 ||| alg.setWidth 32 <<< 4)
  | .compress => .command 0x00000002
  | .pad r => .command (0x00000003 ||| r.setWidth 32 <<< 16)
  | .start alg => .command (0x00000004 ||| alg.setWidth 32 <<< 4)
  | .hexDigest delim => .command (0x00000005 ||| delimBits delim)
  | .hexLe delim => .command (0x00000045 ||| delimBits delim)
  | .hexBe delim => .command (0x00000085 ||| delimBits delim)
  | .hexBuf n delim => .command (0x000000C5 ||| delimBits delim ||| n.setWidth 32 <<< 16)
  | .wrCmd data => writeOf .cmd data
  | .wrLen half data => writeOf (.len half) data
  | .wrData8 data => writeOf .data8 data
  | .wrData32 data => writeOf .data32 data
  | .wrH i half data => writeOf (.h i half) data
  | .wrBufw k data => writeOf (.bufw k) data
  | .rdStatus => readOf .status
  | .rdLen half => readOf (.len half)
  | .rdAbs half => readOf (.abs half)
  | .rdFill => readOf .fill
  | .rdHexlen => readOf .hexlen
  | .rdDlen => readOf .dlen
  | .rdH i half => readOf (.h i half)
  | .rdBufw k => readOf (.bufw k)
  | .rdDigestw k => readOf (.digestw k)
  | .rdHexw k => readOf (.hexw k)
  | .rdHexwHigh k => readOf (.hexw k)

/-! ### Pseudo-operations (R89) -/

/-- Four bytes as the data of one access, the first in the least significant lane (R55). -/
def laneWord (b0 b1 b2 b3 : Byte) : Word32 :=
  b0.setWidth 32 ||| b1.setWidth 32 <<< 8 ||| b2.setWidth 32 <<< 16 ||| b3.setWidth 32 <<< 24

/-- `SETLEN v`. -/
def setLenOps (v : Word64) : List HostOp :=
  [writeOf (.len .lo) (v.extractLsb' 0 32), writeOf (.len .hi) (v.extractLsb' 32 32)]

/-- `PUSH b0 b1 …`: full groups of four bytes through `DATA32`, the rest through `DATA8`. -/
def pushOps : List Byte → List HostOp
  | b0 :: b1 :: b2 :: b3 :: rest => writeOf .data32 (laneWord b0 b1 b2 b3) :: pushOps rest
  | rest => rest.map fun b => writeOf .data8 (b.setWidth 32)

/-- `LOADBUF b0 … b(m−1)`, m at most 128: the words of `BUFW`, missing bytes taken as 0. -/
def loadBufOps (bytes : List Byte) : List HostOp :=
  (List.finRange 32).filterMap fun k =>
    if 4 * k.val < bytes.length then
      some (writeOf (.bufw k) (laneWord (bytes.getD (4 * k.val) 0) (bytes.getD (4 * k.val + 1) 0)
        (bytes.getD (4 * k.val + 2) 0) (bytes.getD (4 * k.val + 3) 0)))
    else none

/-- `WAITFINAL`: one read of `STATUS`, which the host repeats until it sees `ENG = FINAL`. -/
def waitFinalOps : List HostOp := [readOf .status]

/-! ### The opcode table's words -/

/-- The host operation that a word of spec/opcode_table.json stands for. A row of 32 bits is a command word. A shorter
row is a bus row, its bits the byte offset: the table gives neither the direction nor the data any bits, so the data is
0 and the direction is a write where the register can be written and a read otherwise (notes/assumptions/5.md). -/
def tableOp (nbits w : Nat) : HostOp :=
  if 16 < nbits then .command (BitVec.ofNat 32 w)
  else
    match regAt (w % 0x400) with
    | none => .access (.read 32 (w % 0x400))
    | some r =>
      match writeInstr 0 r with
      | none => .access (.read 32 (w % 0x400))
      | some _ => .access (.write 32 (w % 0x400) 0)

/-- What the decoder reads from a word of the opcode table. -/
def decodeTableWord (nbits w : Nat) : Option Instr :=
  match decode (tableOp nbits w) with
  | .ok i => some i
  | .error _ => none

end Sys2Proof
end

