-- ==== Sys2Proof/Machine/State.lean ====
section
/-! DEFINITION. The state of the machine. `CoreState` is R20's tuple of spec/10_state.md, field by field. `State` puts
beside it what the host stands for in a step function of one argument: the moves the host has issued and not yet seen
served, and the bus response to the last one. -/

namespace Sys2Proof.Machine

/-- The state register file `H` (R21): eight 64-bit registers. -/
abbrev HFile := Vector Word64 8

/-- The block buffer `BUF` (R23): 128 bytes. -/
abbrev Buf := Vector Byte 128

/-- The hex output buffer `HEXBUF` (R31): 384 bytes. -/
abbrev HexBuf := Vector Byte 384

/-- R26: the streaming engine's state. The encoding 3 is never held. -/
inductive Eng where
  | idle
  | absorb
  | final
deriving DecidableEq, Repr

/-- R20: the architectural state of one core. -/
structure CoreState where
  /-- `H[0..7]`, the state register file (R21, R22) -/
  h : HFile
  /-- `BUF[0..127]`, the block buffer (R23) -/
  buf : Buf
  /-- `LEN`, the declared message length in bytes (R24) -/
  len : Word64
  /-- `ALG`, the selected algorithm (R25) -/
  alg : Alg
  /-- `ENG`, the engine's state (R26) -/
  eng : Eng
  /-- `FILL`, the bytes of the current partial block (R27) -/
  fill : BitVec 8
  /-- `ABS`, the message bytes absorbed (R28) -/
  abs : Word64
  /-- `ERRCODE`, the outcome of the last command (R29) -/
  errcode : BitVec 3
  /-- `BUSY` (R30): 0 at every state of the transaction-level model -/
  busy : BitVec 1
  /-- `HEXBUF[0..383]`, the hex encoder's output (R31) -/
  hexbuf : HexBuf
  /-- `HEXLEN`, the characters valid in `HEXBUF` (R31) -/
  hexlen : BitVec 9
deriving DecidableEq, Repr

/-- What the bus answered to the last move (MODEL's own: notes/assumptions/2.md). -/
inductive Response where
  /-- nothing has been answered since reset -/
  | quiet
  /-- a write completed; a rejected command and an ignored write complete too (R85, R57) -/
  | written
  /-- a read completed with this value (R56) -/
  | value (data : Word32)
  /-- the access ended with an error response (R333) -/
  | busError (cause : BusError)
deriving DecidableEq, Repr

/-- The machine: one core, and the host's side of the bus. -/
structure State where
  /-- the core (R20) -/
  core : CoreState
  /-- the host's moves still to be served, in the order issued (R60; MODEL's own: notes/assumptions/1.md) -/
  pending : List HostMove
  /-- the answer to the last move (MODEL's own: notes/assumptions/2.md) -/
  response : Response
deriving DecidableEq, Repr

/-- The one way the model stops. -/
inductive Fault where
  /-- raised by `step` on an access whose offset lies outside `0x000 .. 0x3FF`: "Accesses outside … do not reach the
  core; the platform decides what they do" (R52). Safe: the model says nothing where the platform goes on. -/
  | outsideWindow (offset : Nat)
deriving DecidableEq, Repr

/-- Instructions without a meaning. -/
inductive Refusal where
  /-- raised by `exec`'s arm of an instruction that has no meaning yet; no arm does. Safe: the model stops. -/
  | notModelled (mnemonic : String)
deriving DecidableEq, Repr

/-- R20, R370: the core after reset. -/
def CoreState.reset : CoreState where
  h := Vector.replicate 8 0
  buf := Vector.replicate 128 0
  len := 0
  alg := .md5
  eng := .idle
  fill := 0
  abs := 0
  errcode := 0
  busy := 0
  hexbuf := Vector.replicate 384 0
  hexlen := 0

/-- R370: the machine after reset. The host has issued nothing and the bus has answered nothing. -/
def State.reset : State where
  core := CoreState.reset
  pending := []
  response := .quiet

end Sys2Proof.Machine
end

