-- ==== Sys2Proof/Machine/Operands.lean ====
section
/-! DEFINITION. The operand forms of the bus: halves of 64-bit registers, byte lanes (spec/20_memory.md R55), the bytes
of a buffer, and the words of `H` an algorithm uses (spec/10_state.md R22, spec/40_primitives.md R119). -/

namespace Sys2Proof.Machine

/-- One half of a 64-bit register (R52, R56). -/
def readHalf (v : Word64) : Half → Word32
  | .lo => v.extractLsb' 0 32
  | .hi => v.extractLsb' 32 32

/-- A 64-bit register with one half replaced (R52, R57). -/
def writeHalf (v : Word64) (half : Half) (data : Word32) : Word64 :=
  match half with
  | .lo => v.extractLsb' 32 32 ++ data
  | .hi => data ++ v.extractLsb' 0 32

/-- Lane `j` of bus data: bits `[8j+7 : 8j]` (R55). -/
def lane (data : Word32) (j : Nat) : Byte := data.extractLsb' (8 * j) 8

/-- The four bytes of bus data, the least significant lane first (R55, R244). -/
def lanesOf (data : Word32) : List Byte := [lane data 0, lane data 1, lane data 2, lane data 3]

/-- R55: `lanes(X, k) = X[4k] | X[4k+1] << 8 | X[4k+2] << 16 | X[4k+3] << 24`. -/
def lanes (x : Nat → Byte) (k : Nat) : Word32 := laneWord (x (4 * k)) (x (4 * k + 1)) (x (4 * k + 2)) (x (4 * k + 3))

/-- Byte `k` of a buffer of `n` bytes; 0 beyond it, which no rule reads. -/
def byteAt {n : Nat} (x : Vector Byte n) (k : Nat) : Byte := x[k]?.getD 0

/-- Element `k` of a byte list; 0 beyond its end. -/
def listByte (l : List Byte) (k : Nat) : Byte := l.getD k 0

/-- A buffer with one byte replaced. -/
def setByte {n : Nat} (x : Vector Byte n) (k : Nat) (b : Byte) : Vector Byte n := x.setIfInBounds k b

/-- `for k in lo .. hi−1: X[k] <- b`. -/
def fillBytes {n : Nat} (x : Vector Byte n) (lo hi : Nat) (b : Byte) : Vector Byte n :=
  Vector.ofFn fun k => if lo ≤ k.val ∧ k.val < hi then b else byteAt x k.val

/-- `X[at .. at+|l|−1] <- l`. -/
def writeBytes {n : Nat} (x : Vector Byte n) (start : Nat) (l : List Byte) : Vector Byte n :=
  Vector.ofFn fun k =>
    if start ≤ k.val ∧ k.val < start + l.length then listByte l (k.val - start) else byteAt x k.val

/-- Register `i` of the state register file. -/
def hReg (h : HFile) (i : Nat) : Word64 := h[i]?.getD 0

/-- `H[i][31:0]`, all that a 32-bit algorithm reads of `H[i]` (R22). -/
def hLow (h : HFile) (i : Nat) : Word32 := (hReg h i).setWidth 32

/-- Which byte of a word comes first (R118). -/
inductive ByteOrder where
  | le
  | be
deriving DecidableEq, Repr

/-- R118: the bytes of a word in an order. -/
def bytesOf {w : Nat} (order : ByteOrder) (v : BitVec w) : List Byte :=
  match order with
  | .le => bytesLe v
  | .be => bytesBe v

/-- R272, R275: the words `V[k] = H[k][w−1:0]`, `k < nH`, each expanded to bytes in an order. -/
def stateBytes (alg : Alg) (order : ByteOrder) (h : HFile) : List Byte :=
  match alg with
  | .md5 => (List.range 4).flatMap fun k => bytesOf order (hLow h k)
  | .sha256 => (List.range 8).flatMap fun k => bytesOf order (hLow h k)
  | .sha512 => (List.range 8).flatMap fun k => bytesOf order (hReg h k)

/-- R119: the digest. -/
def serialize (alg : Alg) (h : HFile) : List Byte :=
  match alg with
  | .md5 => bytesLe (hLow h 0) ++ bytesLe (hLow h 1) ++ bytesLe (hLow h 2) ++ bytesLe (hLow h 3)
  | .sha256 =>
    bytesBe (hLow h 0) ++ bytesBe (hLow h 1) ++ bytesBe (hLow h 2) ++ bytesBe (hLow h 3)
      ++ bytesBe (hLow h 4) ++ bytesBe (hLow h 5) ++ bytesBe (hLow h 6) ++ bytesBe (hLow h 7)
  | .sha512 =>
    bytesBe (hReg h 0) ++ bytesBe (hReg h 1) ++ bytesBe (hReg h 2) ++ bytesBe (hReg h 3)
      ++ bytesBe (hReg h 4) ++ bytesBe (hReg h 5) ++ bytesBe (hReg h 6) ++ bytesBe (hReg h 7)

end Sys2Proof.Machine
end

