-- ==== Sys2Proof/Machine/Flags.lean ====
section
/-! DEFINITION. `STATUS` and its fields (spec/10_state.md R33), the rejection codes (spec/60_exceptions.md R331), and
the acceptance checks of a command word (spec/30_encoding.md R83, R85). -/

namespace Sys2Proof.Machine

/-- R331: the code of a cause. 0 is `OK`; 6 and 7 are never produced. -/
def errCode : CmdError → BitVec 3
  | .illegalOp => 1
  | .reservedBits => 2
  | .badAlg => 3
  | .badCount => 4
  | .badState => 5

/-- R26: the encoding of `ENG` in `STATUS`. -/
def Eng.code : Eng → BitVec 2
  | .idle => 0
  | .absorb => 1
  | .final => 2

/-- R33, R56: the value a read of `STATUS` returns. -/
def statusWord (c : CoreState) : Word32 :=
  c.errcode.setWidth 32 <<< 8 ||| c.alg.code.setWidth 32 <<< 4 ||| c.eng.code.setWidth 32 <<< 1 ||| c.busy.setWidth 32

/-- R83: a field that the operation does not use is not 0. `op` is below 6. -/
def mustBeZeroBroken (cmd : Word32) : Bool :=
  cmdRsv cmd != 0 ||
    match (cmdOp cmd).toNat with
    | 1 => cmdSrc cmd != 0 || cmdDelim cmd || cmdCount cmd != 0
    | 3 => cmdAlg cmd != 0 || cmdSrc cmd != 0 || cmdDelim cmd
    | 4 => cmdSrc cmd != 0 || cmdDelim cmd || cmdCount cmd != 0
    | 5 => cmdAlg cmd != 0 || (cmdSrc cmd != 3 && cmdCount cmd != 0)
    | _ => cmdAlg cmd != 0 || cmdSrc cmd != 0 || cmdDelim cmd || cmdCount cmd != 0

/-- R85: `OP` is `INIT` or `START` and the algorithm field is 3. -/
def badAlgField (cmd : Word32) : Bool := (cmdOp cmd == 1 || cmdOp cmd == 4) && cmdAlg cmd == 3

/-- R85: the count of a `PAD` or of a `HEX` with `SRC = 3` is out of its range. -/
def badCountField (cmd : Word32) (alg : Alg) : Bool :=
  (cmdOp cmd == 3 && decide (alg.blockSize ≤ (cmdCount cmd).toNat))
    || (cmdOp cmd == 5 && cmdSrc cmd == 3 && decide (128 < (cmdCount cmd).toNat))

/-- R85: `COMPRESS` or `PAD` during a run. -/
def badEngState (cmd : Word32) (eng : Eng) : Bool := (cmdOp cmd == 2 || cmdOp cmd == 3) && eng == .absorb

/-- R85: the checks of a command word in their order; the first that fails decides. `none` is acceptance. -/
def rejection (cmd : Word32) (c : CoreState) : Option CmdError :=
  if 6 ≤ (cmdOp cmd).toNat then some .illegalOp
  else if mustBeZeroBroken cmd then some .reservedBits
  else if badAlgField cmd then some .badAlg
  else if badCountField cmd c.alg then some .badCount
  else if badEngState cmd c.eng then some .badState
  else none

end Sys2Proof.Machine
end

