-- ==== Sys2Proof/Machine/Md5.lean ====
section
/-! DEFINITION. The MD5 compression function (spec/41_md5.md). -/

namespace Sys2Proof.Machine

/-- R140: the MD5 initial value; `H[4..7]` are 0. -/
def ivMd5 : HFile := #v[0x67452301, 0xEFCDAB89, 0x98BADCFE, 0x10325476, 0, 0, 0, 0]

/-- R145: the additive constants. -/
def md5Table : List Word32 :=
  [0xd76aa478, 0xe8c7b756, 0x242070db, 0xc1bdceee, 0xf57c0faf, 0x4787c62a, 0xa8304613, 0xfd469501] ++
  [0x698098d8, 0x8b44f7af, 0xffff5bb1, 0x895cd7be, 0x6b901122, 0xfd987193, 0xa679438e, 0x49b40821] ++
  [0xf61e2562, 0xc040b340, 0x265e5a51, 0xe9b6c7aa, 0xd62f105d, 0x02441453, 0xd8a1e681, 0xe7d3fbc8] ++
  [0x21e1cde6, 0xc33707d6, 0xf4d50d87, 0x455a14ed, 0xa9e3e905, 0xfcefa3f8, 0x676f02d9, 0x8d2a4c8a] ++
  [0xfffa3942, 0x8771f681, 0x6d9d6122, 0xfde5380c, 0xa4beea44, 0x4bdecfa9, 0xf6bb4b60, 0xbebfbc70] ++
  [0x289b7ec6, 0xeaa127fa, 0xd4ef3085, 0x04881d05, 0xd9d4d039, 0xe6db99e5, 0x1fa27cf8, 0xc4ac5665] ++
  [0xf4292244, 0x432aff97, 0xab9423a7, 0xfc93a039, 0x655b59c3, 0x8f0ccc92, 0xffeff47d, 0x85845dd1] ++
  [0x6fa87e4f, 0xfe2ce6e0, 0xa3014314, 0x4e0811a1, 0xf7537e82, 0xbd3af235, 0x2ad7d2bb, 0xeb86d391]

/-- R145: `T[i]`. -/
def md5T (i : Nat) : Word32 := md5Table.getD i 0

/-- R144: the four tables of rotation amounts. -/
def md5Shifts : List (List Nat) := [[7, 12, 17, 22], [5, 9, 14, 20], [4, 11, 16, 23], [6, 10, 15, 21]]

/-- R144: `s(i) = S[q][i mod 4]`. -/
def md5Shift (i : Nat) : Nat := (md5Shifts.getD (i / 16) []).getD (i % 4) 0

/-- R142: the mixing function of the quarter `q`. -/
def md5Mix (q : Nat) (x y z : Word32) : Word32 :=
  match q with
  | 0 => (x &&& y) ||| (~~~x &&& z)
  | 1 => (x &&& z) ||| (y &&& ~~~z)
  | 2 => x ^^^ y ^^^ z
  | _ => y ^^^ (x ||| ~~~z)

/-- R143: the message index of round `i`. -/
def md5Index (i : Nat) : Nat :=
  match i / 16 with
  | 0 => i
  | 1 => (5 * i + 1) % 16
  | 2 => (3 * i + 5) % 16
  | _ => 7 * i % 16

/-- R36: the four working variables. -/
structure Md5Vars where
  a : Word32
  b : Word32
  c : Word32
  d : Word32
deriving DecidableEq, Repr

/-- R141: the message words `M[0..15]`. -/
def md5Words (buf : Buf) : List Word32 := (List.range 16).map (packLe32 (byteAt buf))

/-- R146: round `i` on the message words. -/
def md5Round (m : List Word32) (v : Md5Vars) (i : Nat) : Md5Vars :=
  let f := md5Mix (i / 16) v.b v.c v.d
  let t := v.a + f + md5T i + m.getD (md5Index i) 0
  { a := v.d, b := v.b + rotl t (md5Shift i), c := v.b, d := v.c }

/-- R148: the working variables at the start. -/
def md5Start (h : HFile) : Md5Vars := { a := hLow h 0, b := hLow h 1, c := hLow h 2, d := hLow h 3 }

/-- R148: the 64 rounds. -/
def md5Rounds (m : List Word32) (v : Md5Vars) : Md5Vars := (List.range Alg.md5.rounds).foldl (md5Round m) v

/-- R147: the final addition; `H[4..7]` become 0. -/
def md5Finish (h : HFile) (v : Md5Vars) : HFile :=
  #v[(hLow h 0 + v.a).setWidth 64, (hLow h 1 + v.b).setWidth 64, (hLow h 2 + v.c).setWidth 64,
    (hLow h 3 + v.d).setWidth 64, 0, 0, 0, 0]

/-- R148: `md5_compress`. -/
def md5Compress (h : HFile) (buf : Buf) : HFile := md5Finish h (md5Rounds (md5Words buf) (md5Start h))

end Sys2Proof.Machine
end

