-- ==== Sys2Proof/Machine/Sha.lean ====
section
/-! DEFINITION. The SHA-256 and SHA-512 compression functions (spec/42_sha.md). The two are "structurally identical",
so the schedule and the rounds are written once over the word width and the four sigma functions. -/

namespace Sys2Proof.Machine

/-- R170: the SHA-256 initial value. -/
def iv256 : HFile :=
  #v[0x6a09e667, 0xbb67ae85, 0x3c6ef372, 0xa54ff53a, 0x510e527f, 0x9b05688c, 0x1f83d9ab, 0x5be0cd19]

/-- R171: the SHA-512 initial value. -/
def iv512 : HFile :=
  #v[0x6a09e667f3bcc908, 0xbb67ae8584caa73b, 0x3c6ef372fe94f82b, 0xa54ff53a5f1d36f1,
    0x510e527fade682d1, 0x9b05688c2b3e6c1f, 0x1f83d9abfb41bd6b, 0x5be0cd19137e2179]

/-- R172: the SHA-256 round constants. -/
def k256 : List Word32 :=
  [0x428a2f98, 0x71374491, 0xb5c0fbcf, 0xe9b5dba5, 0x3956c25b, 0x59f111f1, 0x923f82a4, 0xab1c5ed5] ++
  [0xd807aa98, 0x12835b01, 0x243185be, 0x550c7dc3, 0x72be5d74, 0x80deb1fe, 0x9bdc06a7, 0xc19bf174] ++
  [0xe49b69c1, 0xefbe4786, 0x0fc19dc6, 0x240ca1cc, 0x2de92c6f, 0x4a7484aa, 0x5cb0a9dc, 0x76f988da] ++
  [0x983e5152, 0xa831c66d, 0xb00327c8, 0xbf597fc7, 0xc6e00bf3, 0xd5a79147, 0x06ca6351, 0x14292967] ++
  [0x27b70a85, 0x2e1b2138, 0x4d2c6dfc, 0x53380d13, 0x650a7354, 0x766a0abb, 0x81c2c92e, 0x92722c85] ++
  [0xa2bfe8a1, 0xa81a664b, 0xc24b8b70, 0xc76c51a3, 0xd192e819, 0xd6990624, 0xf40e3585, 0x106aa070] ++
  [0x19a4c116, 0x1e376c08, 0x2748774c, 0x34b0bcb5, 0x391c0cb3, 0x4ed8aa4a, 0x5b9cca4f, 0x682e6ff3] ++
  [0x748f82ee, 0x78a5636f, 0x84c87814, 0x8cc70208, 0x90befffa, 0xa4506ceb, 0xbef9a3f7, 0xc67178f2]

/-- R173: the SHA-512 round constants. -/
def k512 : List Word64 :=
  [0x428a2f98d728ae22, 0x7137449123ef65cd, 0xb5c0fbcfec4d3b2f, 0xe9b5dba58189dbbc] ++
  [0x3956c25bf348b538, 0x59f111f1b605d019, 0x923f82a4af194f9b, 0xab1c5ed5da6d8118] ++
  [0xd807aa98a3030242, 0x12835b0145706fbe, 0x243185be4ee4b28c, 0x550c7dc3d5ffb4e2] ++
  [0x72be5d74f27b896f, 0x80deb1fe3b1696b1, 0x9bdc06a725c71235, 0xc19bf174cf692694] ++
  [0xe49b69c19ef14ad2, 0xefbe4786384f25e3, 0x0fc19dc68b8cd5b5, 0x240ca1cc77ac9c65] ++
  [0x2de92c6f592b0275, 0x4a7484aa6ea6e483, 0x5cb0a9dcbd41fbd4, 0x76f988da831153b5] ++
  [0x983e5152ee66dfab, 0xa831c66d2db43210, 0xb00327c898fb213f, 0xbf597fc7beef0ee4] ++
  [0xc6e00bf33da88fc2, 0xd5a79147930aa725, 0x06ca6351e003826f, 0x142929670a0e6e70] ++
  [0x27b70a8546d22ffc, 0x2e1b21385c26c926, 0x4d2c6dfc5ac42aed, 0x53380d139d95b3df] ++
  [0x650a73548baf63de, 0x766a0abb3c77b2a8, 0x81c2c92e47edaee6, 0x92722c851482353b] ++
  [0xa2bfe8a14cf10364, 0xa81a664bbc423001, 0xc24b8b70d0f89791, 0xc76c51a30654be30] ++
  [0xd192e819d6ef5218, 0xd69906245565a910, 0xf40e35855771202a, 0x106aa07032bbd1b8] ++
  [0x19a4c116b8d2d0c8, 0x1e376c085141ab53, 0x2748774cdf8eeb99, 0x34b0bcb5e19b48a8] ++
  [0x391c0cb3c5c95a63, 0x4ed8aa4ae3418acb, 0x5b9cca4f7763e373, 0x682e6ff3d6b2b8a3] ++
  [0x748f82ee5defb2fc, 0x78a5636f43172f60, 0x84c87814a1f0ab72, 0x8cc702081a6439ec] ++
  [0x90befffa23631e28, 0xa4506cebde82bde9, 0xbef9a3f7b2c67915, 0xc67178f2e372532b] ++
  [0xca273eceea26619c, 0xd186b8c721c0c207, 0xeada7dd6cde0eb1e, 0xf57d4f7fee6ed178] ++
  [0x06f067aa72176fba, 0x0a637dc5a2c898a6, 0x113f9804bef90dae, 0x1b710b35131c471b] ++
  [0x28db77f523047d84, 0x32caab7b40c72493, 0x3c9ebe0a15c9bebc, 0x431d67c49c100d4c] ++
  [0x4cc5d4becb3e42b6, 0x597f299cfc657e2a, 0x5fcb6fab3ad6faec, 0x6c44198c4a475817]

/-- R175, SHA-256: `σ0`. -/
def smallSigma0of256 (x : Word32) : Word32 := rotr x 7 ^^^ rotr x 18 ^^^ shr x 3

/-- R175, SHA-256: `σ1`. -/
def smallSigma1of256 (x : Word32) : Word32 := rotr x 17 ^^^ rotr x 19 ^^^ shr x 10

/-- R175, SHA-512: `σ0`. -/
def smallSigma0of512 (x : Word64) : Word64 := rotr x 1 ^^^ rotr x 8 ^^^ shr x 7

/-- R175, SHA-512: `σ1`. -/
def smallSigma1of512 (x : Word64) : Word64 := rotr x 19 ^^^ rotr x 61 ^^^ shr x 6

/-- R176, SHA-256: `Σ0`. -/
def bigSigma0of256 (x : Word32) : Word32 := rotr x 2 ^^^ rotr x 13 ^^^ rotr x 22

/-- R176, SHA-256: `Σ1`. -/
def bigSigma1of256 (x : Word32) : Word32 := rotr x 6 ^^^ rotr x 11 ^^^ rotr x 25

/-- R176, SHA-512: `Σ0`. -/
def bigSigma0of512 (x : Word64) : Word64 := rotr x 28 ^^^ rotr x 34 ^^^ rotr x 39

/-- R176, SHA-512: `Σ1`. -/
def bigSigma1of512 (x : Word64) : Word64 := rotr x 14 ^^^ rotr x 18 ^^^ rotr x 41

/-- R176: the choice function. -/
def ch {w : Nat} (e f g : BitVec w) : BitVec w := (e &&& f) ^^^ (~~~e &&& g)

/-- R176: the majority function. -/
def maj {w : Nat} (a b c : BitVec w) : BitVec w := (a &&& b) ^^^ (a &&& c) ^^^ (b &&& c)

/-- What the two SHA algorithms differ in: the sigma functions and the round constants. -/
structure ShaFns (w : Nat) where
  small0 : BitVec w → BitVec w
  small1 : BitVec w → BitVec w
  big0 : BitVec w → BitVec w
  big1 : BitVec w → BitVec w
  k : List (BitVec w)

/-- SHA-256's functions and constants. -/
def fns256 : ShaFns 32 := ⟨smallSigma0of256, smallSigma1of256, bigSigma0of256, bigSigma1of256, k256⟩

/-- SHA-512's functions and constants. -/
def fns512 : ShaFns 64 := ⟨smallSigma0of512, smallSigma1of512, bigSigma0of512, bigSigma1of512, k512⟩

/-- R175: `W[i]` from the words before it. -/
def shaNextWord {w : Nat} (p : ShaFns w) (ws : List (BitVec w)) (i : Nat) : BitVec w :=
  ws.getD (i - 16) 0 + p.small0 (ws.getD (i - 15) 0) + ws.getD (i - 7) 0 + p.small1 (ws.getD (i - 2) 0)

/-- R175: a schedule with `W[i]` appended. -/
def shaExtend {w : Nat} (p : ShaFns w) (ws : List (BitVec w)) (i : Nat) : List (BitVec w) :=
  ws ++ [shaNextWord p ws i]

/-- R175: the schedule `W[0 .. 15+n]` from the sixteen words of the block. -/
def shaSchedule {w : Nat} (p : ShaFns w) (block : List (BitVec w)) : Nat → List (BitVec w)
  | 0 => block
  | n + 1 => shaExtend p (shaSchedule p block n) (16 + n)

/-- R36: the eight working variables. -/
structure ShaVars (w : Nat) where
  a : BitVec w
  b : BitVec w
  c : BitVec w
  d : BitVec w
  e : BitVec w
  f : BitVec w
  g : BitVec w
  h : BitVec w
deriving DecidableEq, Repr

/-- R177: round `i` on the schedule. -/
def shaRound {w : Nat} (p : ShaFns w) (ws : List (BitVec w)) (v : ShaVars w) (i : Nat) : ShaVars w :=
  let temp1 := v.h + p.big1 v.e + ch v.e v.f v.g + p.k.getD i 0 + ws.getD i 0
  let temp2 := p.big0 v.a + maj v.a v.b v.c
  { a := temp1 + temp2, b := v.a, c := v.b, d := v.c, e := v.d + temp1, f := v.e, g := v.f, h := v.g }

/-- The rounds `0 .. n−1`. -/
def shaRounds {w : Nat} (p : ShaFns w) (ws : List (BitVec w)) (n : Nat) (v : ShaVars w) : ShaVars w :=
  (List.range n).foldl (shaRound p ws) v

/-- R174, R175: SHA-256's schedule of a block, `W[0..63]`. -/
def schedule256 (buf : Buf) : List Word32 := shaSchedule fns256 ((List.range 16).map (packBe32 (byteAt buf))) 48

/-- R174, R175: SHA-512's schedule of a block, `W[0..79]`. -/
def schedule512 (buf : Buf) : List Word64 := shaSchedule fns512 ((List.range 16).map (packBe64 (byteAt buf))) 64

/-- R179: SHA-256's working variables at the start. -/
def start256 (h : HFile) : ShaVars 32 :=
  ⟨hLow h 0, hLow h 1, hLow h 2, hLow h 3, hLow h 4, hLow h 5, hLow h 6, hLow h 7⟩

/-- R180: SHA-512's working variables at the start. -/
def start512 (h : HFile) : ShaVars 64 :=
  ⟨hReg h 0, hReg h 1, hReg h 2, hReg h 3, hReg h 4, hReg h 5, hReg h 6, hReg h 7⟩

/-- R178, SHA-256: the final addition, zero-extended. -/
def finish256 (h : HFile) (v : ShaVars 32) : HFile :=
  #v[(hLow h 0 + v.a).setWidth 64, (hLow h 1 + v.b).setWidth 64, (hLow h 2 + v.c).setWidth 64,
    (hLow h 3 + v.d).setWidth 64, (hLow h 4 + v.e).setWidth 64, (hLow h 5 + v.f).setWidth 64,
    (hLow h 6 + v.g).setWidth 64, (hLow h 7 + v.h).setWidth 64]

/-- R178, SHA-512: the final addition. -/
def finish512 (h : HFile) (v : ShaVars 64) : HFile :=
  #v[hReg h 0 + v.a, hReg h 1 + v.b, hReg h 2 + v.c, hReg h 3 + v.d, hReg h 4 + v.e, hReg h 5 + v.f,
    hReg h 6 + v.g, hReg h 7 + v.h]

/-- R179: `sha256_compress`. -/
def sha256Compress (h : HFile) (buf : Buf) : HFile :=
  finish256 h (shaRounds fns256 (schedule256 buf) Alg.sha256.rounds (start256 h))

/-- R180: `sha512_compress`. -/
def sha512Compress (h : HFile) (buf : Buf) : HFile :=
  finish512 h (shaRounds fns512 (schedule512 buf) Alg.sha512.rounds (start512 h))

end Sys2Proof.Machine
end

