-- ==== Sys2Proof/Machine/Ops.lean ====
section
/-! DEFINITION. The shared operations: how an operation of the host ends, the one operation that records an error, the
loading of an initial value, one compression, and reset. The core has no trap, so there is no state to save and no
return (spec/60_exceptions.md R334). -/

namespace Sys2Proof.Machine

/-- The three outcomes of a step of this machine. -/
abbrev Result := Host.Outcome State Fault Refusal

/-- The operation has ended: the core is `c` and the bus answers `r`. -/
def answer (s : State) (c : CoreState) (r : Response) : Result := .next { s with core := c, response := r }

/-- A write that completed (R57). -/
def finishWrite (s : State) (c : CoreState) : Result := answer s c .written

/-- A read (R56): it returns a value and changes no core state. -/
def finishRead (s : State) (v : Word32) : Result := answer s s.core (.value v)

/-- R333: an error response. It changes no core state, `ERRCODE` included. -/
def busFault (s : State) (cause : BusError) : Result := answer s s.core (.busError cause)

/-- R85: `reject(code)`. It sets `ERRCODE` and changes nothing else; on the bus the write of `CMD` completes. -/
def reject (s : State) (cause : CmdError) : Result := finishWrite s { s.core with errcode := errCode cause }

/-- R85: acceptance. `ERRCODE` becomes 0, and then the command has its effect. -/
def accept (s : State) (effect : CoreState → CoreState) : Result :=
  finishWrite s (effect { s.core with errcode := 0 })

/-- R57: a host write of `H`, `BUF` or `LEN`, accepted on the bus and ignored during a run. -/
def storageWrite (s : State) (effect : CoreState → CoreState) : Result :=
  if s.core.eng = .absorb then finishWrite s s.core else finishWrite s (effect s.core)

/-- R301, R241: `IV(alg)`, zero-extended, unused entries 0. -/
def iv : Alg → HFile
  | .md5 => ivMd5
  | .sha256 => iv256
  | .sha512 => iv512

/-- R302: the compression function of an algorithm, on a state and a block. -/
def compress (alg : Alg) (h : HFile) (buf : Buf) : HFile :=
  match alg with
  | .md5 => md5Compress h buf
  | .sha256 => sha256Compress h buf
  | .sha512 => sha512Compress h buf

/-- `compress()`: the block in `BUF` is compressed into `H`. `BUF` is not written (R148, R179, R180). -/
def compressCore (c : CoreState) : CoreState := { c with h := compress c.alg c.h c.buf }

/-- R370: reset of the core by its reset input. -/
def resetCore (_ : CoreState) : CoreState := CoreState.reset

end Sys2Proof.Machine
end

