-- ==== Sys2Proof/Machine/Control.lean ====
section
/-! DEFINITION. The control commands (spec/46_control.md): `NOP`, `INIT`, `COMPRESS`. -/

namespace Sys2Proof.Machine

/-- R300: nothing. -/
def nopEffect (c : CoreState) : CoreState := c

/-- `NOP` (R300): acceptance has cleared `ERRCODE`. -/
def execNop (s : State) : Result := accept s nopEffect

/-- R301: what an accepted `INIT alg` does. -/
def initEffect (alg : Alg) (c : CoreState) : CoreState :=
  { c with alg := alg, h := iv alg, eng := .idle, fill := 0, abs := 0 }

/-- `INIT alg` (R301, R85): the code 3 is rejected. -/
def execInit (alg : BitVec 2) (s : State) : Result :=
  match Alg.ofCode alg with
  | none => reject s .badAlg
  | some a => accept s (initEffect a)

/-- R302: what an accepted `COMPRESS` does. -/
def compressEffect (c : CoreState) : CoreState := { compressCore c with eng := .idle }

/-- `COMPRESS` (R302, R85): rejected during a run. -/
def execCompress (s : State) : Result :=
  if s.core.eng = .absorb then reject s .badState else accept s compressEffect

end Sys2Proof.Machine
end

