-- ==== Sys2Proof/Machine/Padding.lean ====
section
/-! DEFINITION. The padding machine (spec/43_padding.md): the operation `pad(r)` of R211, the same as a machine of
sub-states (R213), and the command `PAD` (R212). -/

namespace Sys2Proof.Machine

/-- R210, R211: the length field at its fixed offset from the block's end. -/
def putLenField (alg : Alg) (len : Word64) (buf : Buf) : Buf :=
  writeBytes buf (alg.blockSize - alg.lenFieldBytes) (lenField alg len)

/-- R211, `r ≤ THR`: the one padding block. -/
def oneBlock (alg : Alg) (len : Word64) (r : Nat) (buf : Buf) : Buf :=
  putLenField alg len (fillBytes (setByte buf r 0x80) (r + 1) (alg.blockSize - alg.lenFieldBytes) 0)

/-- R211, `THR < r`: the first of two padding blocks. -/
def firstBlock (alg : Alg) (r : Nat) (buf : Buf) : Buf := fillBytes (setByte buf r 0x80) (r + 1) alg.blockSize 0

/-- R211, `THR < r`: the second padding block. -/
def secondBlock (alg : Alg) (len : Word64) (buf : Buf) : Buf := putLenField alg len (fillBytes buf 0 alg.blockSize 0)

/-- R211: `pad(r)`, for `r < bs`. -/
def pad (r : Nat) (c : CoreState) : CoreState :=
  if r ≤ c.alg.threshold then compressCore { c with buf := oneBlock c.alg c.len r c.buf }
  else
    let c1 := compressCore { c with buf := firstBlock c.alg r c.buf }
    compressCore { c1 with buf := secondBlock c1.alg c1.len c1.buf }

/-- R213: the sub-states of the padding machine. Those that still need the tail length of the request hold it. -/
inductive PadPhase where
  | idle
  | mark (r : Nat)
  | one (r : Nat)
  | first (r : Nat)
  | second
deriving DecidableEq, Repr

/-- R213: what the padding machine holds inside one atomic step: its sub-state, the pad request not yet taken (its tail
length), the hash state and the block it works on, and how many compressions it has made. -/
structure PadWork where
  phase : PadPhase
  request : Option Nat
  h : HFile
  buf : Buf
  compressions : Nat
deriving DecidableEq, Repr

/-- R213: the machine in `P_IDLE` with a pad request for a tail of `r` bytes made of it. -/
def padRequest (r : Nat) (c : CoreState) : PadWork :=
  { phase := .idle, request := some r, h := c.h, buf := c.buf, compressions := 0 }

/-- R213, `P_IDLE`: wait for a pad request, and take it. -/
def padTakeRequest (p : PadWork) : PadWork :=
  match p.request with
  | none => p
  | some r => { p with phase := .mark r, request := none }

/-- R213: the compression of the block `b`, after which the machine is in the sub-state `next`. -/
def padCompress (alg : Alg) (b : Buf) (next : PadPhase) (p : PadWork) : PadWork :=
  { p with phase := next, h := compress alg p.h b, buf := b, compressions := p.compressions + 1 }

/-- R213: one row of the table of sub-states, for a message of `len` bytes. -/
def padPhaseStep (alg : Alg) (len : Word64) (p : PadWork) : PadWork :=
  match p.phase with
  | .idle => padTakeRequest p
  | .mark r => { p with buf := setByte p.buf r 0x80, phase := if r ≤ alg.threshold then .one r else .first r }
  | .one r =>
    padCompress alg (putLenField alg len (fillBytes p.buf (r + 1) (alg.blockSize - alg.lenFieldBytes) 0)) .idle p
  | .first r => padCompress alg (fillBytes p.buf (r + 1) alg.blockSize 0) .second p
  | .second =>
    padCompress alg (putLenField alg len (fillBytes p.buf 0 (alg.blockSize - alg.lenFieldBytes) 0)) .idle p

/-- R213: `n` transitions of the padding machine. -/
def padPhaseRun (alg : Alg) (len : Word64) : Nat → PadWork → PadWork
  | 0, p => p
  | n + 1, p => padPhaseRun alg len n (padPhaseStep alg len p)

/-- R212: what an accepted `PAD r` does. -/
def padEffect (r : Byte) (c : CoreState) : CoreState := { pad r.toNat c with eng := .final }

/-- `PAD r` (R212, R85): rejected when `r ≥ bs`, then when a run is in progress. -/
def execPad (r : Byte) (s : State) : Result :=
  if s.core.alg.blockSize ≤ r.toNat then reject s .badCount
  else if s.core.eng = .absorb then reject s .badState
  else accept s (padEffect r)

end Sys2Proof.Machine
end

