-- ==== Sys2Proof/Machine/Engine.lean ====
section
/-! DEFINITION. The streaming engine (spec/44_engine.md): `START`, the absorb step, and the writes of `DATA8` and
`DATA32`. -/

namespace Sys2Proof.Machine

/-- R246: a run ends. The tail of `r` bytes is padded and `ENG` becomes `FINAL`. -/
def endRun (r : Nat) (c : CoreState) : CoreState := { pad r c with eng := .final }

/-- R241: a run is set up. -/
def beginRun (alg : Alg) (c : CoreState) : CoreState :=
  { c with alg := alg, h := iv alg, fill := 0, abs := 0, eng := .absorb }

/-- R241: what an accepted `START alg` does; an empty message ends its run at once. -/
def startEffect (alg : Alg) (c : CoreState) : CoreState :=
  if c.len = 0 then endRun 0 (beginRun alg c) else beginRun alg c

/-- `START alg` (R241, R85): the code 3 is rejected. -/
def execStart (alg : BitVec 2) (s : State) : Result :=
  match Alg.ofCode alg with
  | none => reject s .badAlg
  | some a => accept s (startEffect a)

/-- R242: `BUF[FILL] <- b`, and `FILL` and `ABS` count it. -/
def absorbByte (b : Byte) (c : CoreState) : CoreState :=
  { c with buf := setByte c.buf c.fill.toNat b, fill := c.fill + 1, abs := c.abs + 1 }

/-- R242: `if FILL = bs(ALG)`, the block is compressed and `FILL` starts again. -/
def flushBlock (c : CoreState) : CoreState :=
  if c.fill.toNat = c.alg.blockSize then { compressCore c with fill := 0 } else c

/-- R242: `if ABS = LEN`, the run ends with the tail in `BUF[0 .. FILL−1]`. -/
def checkEnd (c : CoreState) : CoreState := if c.abs = c.len then endRun c.fill.toNat c else c

/-- R242: the absorb step `push(b)`. A byte pushed outside a run is dropped (R245). -/
def push (b : Byte) (c : CoreState) : CoreState :=
  if c.eng = .absorb then checkEnd (flushBlock (absorbByte b c)) else c

/-- Pushes in order. -/
def pushAll (bytes : List Byte) (c : CoreState) : CoreState := bytes.foldl (fun c b => push b c) c

/-- `WR DATA8` (R243): the byte `data[7:0]`. -/
def execWrData8 (data : Word32) (s : State) : Result := finishWrite s (push (lane data 0) s.core)

/-- `WR DATA32` (R244): the four lanes, `data[7:0]` first, in one atomic write. -/
def execWrData32 (data : Word32) (s : State) : Result := finishWrite s (pushAll (lanesOf data) s.core)

end Sys2Proof.Machine
end

