-- ==== Sys2Proof/Machine/Hex.lean ====
section
/-! DEFINITION. The hex encoder (spec/45_hex.md): the encoder functions and the four forms of `HEX`. -/

namespace Sys2Proof.Machine

/-- R270: the lowercase ASCII character of a nibble. -/
def hexChar (v : BitVec 4) : Byte := if v.toNat < 10 then 0x30 + v.setWidth 8 else 0x61 + (v.setWidth 8 - 10)

/-- R271: the two characters of a byte, the high nibble first. -/
def hexPair (b : Byte) : List Byte := [hexChar (b.extractLsb' 4 4), hexChar (b.extractLsb' 0 4)]

/-- R271: what stands between two encoded bytes, ':' (0x3A) or nothing. -/
def hexSep (delim : Bool) : List Byte := if delim then [0x3A] else []

/-- R271: `hex_bytes(X, n, delim)` on the list of the `n` bytes. -/
def hexBytes (delim : Bool) : List Byte → List Byte
  | [] => []
  | [b] => hexPair b
  | b :: b' :: rest => hexPair b ++ hexSep delim ++ hexBytes delim (b' :: rest)

/-- R272: `hex_words` on the words of the hash state. -/
def hexStateWords (alg : Alg) (order : ByteOrder) (delim : Bool) (h : HFile) : List Byte :=
  hexBytes delim (stateBytes alg order h)

/-- The bytes `BUF[0 .. n−1]`. -/
def bufPrefix (n : Nat) (buf : Buf) : List Byte := (List.range n).map (byteAt buf)

/-- R273: `HEX_common(out)`. -/
def hexCommon (out : List Byte) (c : CoreState) : CoreState :=
  { c with hexbuf := Vector.ofFn fun k => listByte out k.val, hexlen := BitVec.ofNat 9 out.length }

/-- R274: what `HEX digest` does. -/
def hexDigestEffect (delim : Bool) (c : CoreState) : CoreState := hexCommon (hexBytes delim (serialize c.alg c.h)) c

/-- R275: what `HEX le` does. -/
def hexLeEffect (delim : Bool) (c : CoreState) : CoreState := hexCommon (hexStateWords c.alg .le delim c.h) c

/-- R276: what `HEX be` does. -/
def hexBeEffect (delim : Bool) (c : CoreState) : CoreState := hexCommon (hexStateWords c.alg .be delim c.h) c

/-- R277: what an accepted `HEX buf, n` does. -/
def hexBufEffect (n : Byte) (delim : Bool) (c : CoreState) : CoreState :=
  hexCommon (hexBytes delim (bufPrefix n.toNat c.buf)) c

/-- `HEX digest[, delim]` (R274). -/
def execHexDigest (delim : Bool) (s : State) : Result := accept s (hexDigestEffect delim)

/-- `HEX le[, delim]` (R275). -/
def execHexLe (delim : Bool) (s : State) : Result := accept s (hexLeEffect delim)

/-- `HEX be[, delim]` (R276). -/
def execHexBe (delim : Bool) (s : State) : Result := accept s (hexBeEffect delim)

/-- `HEX buf, n[, delim]` (R277, R85): rejected when `n > 128`. -/
def execHexBuf (n : Byte) (delim : Bool) (s : State) : Result :=
  if 128 < n.toNat then reject s .badCount else accept s (hexBufEffect n delim)

end Sys2Proof.Machine
end

