-- ==== Sys2Proof/Machine/Command.lean ====
section
/-! DEFINITION. The write of `CMD` (spec/30_encoding.md R85): any 32-bit word is checked in R85's order and, when it is
accepted, its operation is executed, all in one atomic step. -/

namespace Sys2Proof.Machine

/-- R84: the form of `HEX` that `SRC` selects. -/
def hexEffect (cmd : Word32) (c : CoreState) : CoreState :=
  match (cmdSrc cmd).toNat with
  | 0 => hexDigestEffect (cmdDelim cmd) c
  | 1 => hexLeEffect (cmdDelim cmd) c
  | 2 => hexBeEffect (cmdDelim cmd) c
  | _ => hexBufEffect (cmdCount cmd) (cmdDelim cmd) c

/-- An operation on the algorithm that the `ALG` field names. An accepted word never holds the code 3 (R85). -/
def withAlgField (cmd : Word32) (effect : Alg → CoreState → CoreState) (c : CoreState) : CoreState :=
  match Alg.ofCode (cmdAlg cmd) with
  | some a => effect a c
  | none => c

/-- R84, R85: `execute OP`, for an accepted word. -/
def execute (cmd : Word32) (c : CoreState) : CoreState :=
  match (cmdOp cmd).toNat with
  | 0 => nopEffect c
  | 1 => withAlgField cmd initEffect c
  | 2 => compressEffect c
  | 3 => padEffect (cmdCount cmd) c
  | 4 => withAlgField cmd startEffect c
  | 5 => hexEffect cmd c
  | _ => c

/-- `WR CMD, data` (R57, R85). -/
def execWrCmd (data : Word32) (s : State) : Result :=
  match rejection data s.core with
  | some cause => reject s cause
  | none => accept s (execute data)

end Sys2Proof.Machine
end

