-- ==== Sys2Proof/Machine/Window.lean ====
section
/-! DEFINITION. The register window (spec/20_memory.md R56, R57): the writes of `LEN`, `H` and `BUF`, and every read. -/

namespace Sys2Proof.Machine

/-- R57: one half of `LEN`. -/
def setLenHalf (half : Half) (data : Word32) (c : CoreState) : CoreState :=
  { c with len := writeHalf c.len half data }

/-- R57: one half of `H[i]`. -/
def setHHalf (i : Fin 8) (half : Half) (data : Word32) (c : CoreState) : CoreState :=
  { c with h := c.h.set i.val (writeHalf c.h[i] half data) }

/-- R57: `for j in 0..3: BUF[4k+j] <- data[8j+7:8j]`. -/
def setBufWord (k : Fin 32) (data : Word32) (c : CoreState) : CoreState :=
  { c with buf := writeBytes c.buf (4 * k.val) (lanesOf data) }

/-- `WR LEN_LO`, `WR LEN_HI` (R57). -/
def execWrLen (half : Half) (data : Word32) (s : State) : Result := storageWrite s (setLenHalf half data)

/-- `WR H_LO(i)`, `WR H_HI(i)` (R57). -/
def execWrH (i : Fin 8) (half : Half) (data : Word32) (s : State) : Result := storageWrite s (setHHalf i half data)

/-- `WR BUFW(k)` (R57). -/
def execWrBufw (k : Fin 32) (data : Word32) (s : State) : Result := storageWrite s (setBufWord k data)

/-- R56: the digest bytes, 0 from `DLEN` on. -/
def digestByte (c : CoreState) (n : Nat) : Byte := listByte (serialize c.alg c.h) n

/-- R56: the word `HEXW(k)`. -/
def hexWord (c : CoreState) (k : Fin 96) : Word32 := lanes (byteAt c.hexbuf) k.val

/-- `RD STATUS` (R33, R56). -/
def execRdStatus (s : State) : Result := finishRead s (statusWord s.core)

/-- `RD LEN_LO`, `RD LEN_HI` (R56). -/
def execRdLen (half : Half) (s : State) : Result := finishRead s (readHalf s.core.len half)

/-- `RD ABS_LO`, `RD ABS_HI` (R56). -/
def execRdAbs (half : Half) (s : State) : Result := finishRead s (readHalf s.core.abs half)

/-- `RD FILL` (R56). -/
def execRdFill (s : State) : Result := finishRead s (s.core.fill.setWidth 32)

/-- `RD HEXLEN` (R56). -/
def execRdHexlen (s : State) : Result := finishRead s (s.core.hexlen.setWidth 32)

/-- `RD DLEN` (R56). -/
def execRdDlen (s : State) : Result := finishRead s (BitVec.ofNat 32 s.core.alg.digestBytes)

/-- `RD H_LO(i)`, `RD H_HI(i)` (R56). -/
def execRdH (i : Fin 8) (half : Half) (s : State) : Result := finishRead s (readHalf s.core.h[i] half)

/-- `RD BUFW(k)` (R55, R56). -/
def execRdBufw (k : Fin 32) (s : State) : Result := finishRead s (lanes (byteAt s.core.buf) k.val)

/-- `RD DIGESTW(k)` (R55, R56): the current `H` serialised. -/
def execRdDigestw (k : Fin 16) (s : State) : Result := finishRead s (lanes (digestByte s.core) k.val)

/-- `RD HEXW(k)`, the table's row `k < 64` (R55, R56). -/
def execRdHexw (k : Fin 96) (s : State) : Result := finishRead s (hexWord s.core k)

/-- `RD HEXW(k)`, the table's row `64 ≤ k` (R55, R56). -/
def execRdHexwHigh (k : Fin 96) (s : State) : Result := finishRead s (hexWord s.core k)

end Sys2Proof.Machine
end

