-- ==== Sys2Proof/Machine/Dispatch.lean ====
section
/-! DEFINITION. One arm per operation of the opcode table. -/

namespace Sys2Proof.Machine

def exec (i : Instr) (s : State) : Host.Outcome State Fault Refusal :=
  match i with
  | .nop => Sys2Proof.Machine.execNop s
  | .init alg => Sys2Proof.Machine.execInit alg s
  | .compress => Sys2Proof.Machine.execCompress s
  | .pad r => Sys2Proof.Machine.execPad r s
  | .start alg => Sys2Proof.Machine.execStart alg s
  | .hexDigest delim => Sys2Proof.Machine.execHexDigest delim s
  | .hexLe delim => Sys2Proof.Machine.execHexLe delim s
  | .hexBe delim => Sys2Proof.Machine.execHexBe delim s
  | .hexBuf n delim => Sys2Proof.Machine.execHexBuf n delim s
  | .wrCmd data => Sys2Proof.Machine.execWrCmd data s
  | .wrLen half data => Sys2Proof.Machine.execWrLen half data s
  | .wrData8 data => Sys2Proof.Machine.execWrData8 data s
  | .wrData32 data => Sys2Proof.Machine.execWrData32 data s
  | .wrH k half data => Sys2Proof.Machine.execWrH k half data s
  | .wrBufw k data => Sys2Proof.Machine.execWrBufw k data s
  | .rdStatus => Sys2Proof.Machine.execRdStatus s
  | .rdLen half => Sys2Proof.Machine.execRdLen half s
  | .rdAbs half => Sys2Proof.Machine.execRdAbs half s
  | .rdFill => Sys2Proof.Machine.execRdFill s
  | .rdHexlen => Sys2Proof.Machine.execRdHexlen s
  | .rdDlen => Sys2Proof.Machine.execRdDlen s
  | .rdH k half => Sys2Proof.Machine.execRdH k half s
  | .rdBufw k => Sys2Proof.Machine.execRdBufw k s
  | .rdDigestw k => Sys2Proof.Machine.execRdDigestw k s
  | .rdHexw k => Sys2Proof.Machine.execRdHexw k s
  | .rdHexwHigh k => Sys2Proof.Machine.execRdHexwHigh k s

end Sys2Proof.Machine
end

