-- ==== Sys2Proof/Machine/Run.lean ====
section
/-! DEFINITION. What one step of the machine does with the host's next move, and how the opcode table's words are put
before it. -/

namespace Sys2Proof.Machine

/-- A host operation that decodes to no `Instr`: a word of no form is rejected as R85 says, a refused access gets its
error response (R333), and an access outside the window does not reach the core (R52). -/
def runRejected (cause : Rejection) (s : State) : Result :=
  match cause with
  | .command e => reject s e
  | .bus e => busFault s e
  | .outsideWindow offset => .fault (.outsideWindow offset)

/-- One host operation, already taken from the queue. -/
def runOp (o : HostOp) (s : State) : Result :=
  match decode o with
  | .ok i => exec i s
  | .error cause => runRejected cause s

/-- R370: the reset input is asserted and released. Nothing of what the core was doing survives. -/
def runReset (s : State) : Result := .next { s with core := resetCore s.core, response := .quiet }

/-- R373: the command in progress ends. The next access is still held. -/
def endBusy (s : State) : Result := .next { s with core := { s.core with busy := 0 } }

/-- R50, R247: no move is pending. The core starts nothing of its own and waits. -/
def waitHost (s : State) : Result := .next s

/-- One step: reset takes effect at any time (R370); otherwise a busy core holds every access (R373); otherwise the
first operation of the queue is served (R60). -/
def runStep (s : State) : Result :=
  match s.pending with
  | .reset :: rest => runReset { s with pending := rest }
  | [] => if s.core.busy = 0 then waitHost s else endBusy s
  | .op o :: rest => if s.core.busy = 0 then runOp o { s with pending := rest } else endBusy s

/-- The state with a host operation put before the pending ones, and no command in progress that would hold it. -/
def issue (o : HostOp) (s : State) : State :=
  { s with core := { s.core with busy := 0 }, pending := .op o :: s.pending }

end Sys2Proof.Machine
end

