-- ==== Sys2Proof/Machine/Step.lean ====
section
/-! DEFINITION. The step, and the words of the opcode table where the step takes its next operation. -/

namespace Sys2Proof.Machine

/-- One step of the machine: the host's next move is served. -/
def step (s : State) : Host.Outcome State Fault Refusal := runStep s

/-- The state in which the very next step runs the operation of an opcode-table word (notes/assumptions/5.md). -/
def State.withFetchWord (s : State) (nbits w : Nat) : State := issue (tableOp nbits w) s

end Sys2Proof.Machine
end

