-- ==== Sys2Proof/Safety.lean ====
section
/-! DEFINITION. The terms of the claims: the invariant of every observable state (spec/10_state.md R22, R27 to R31,
R38), the hash of a message written from the padded message (spec/43_padding.md R215) without the engine, the class of
an operation, and the host's duties (spec/60_exceptions.md R338, R340). -/

namespace Sys2Proof.Machine

/-- R22: `H` is as the algorithm leaves it: upper halves 0 for a 32-bit algorithm, `H[4..7]` 0 for MD5. -/
def CanonicalH (alg : Alg) (h : HFile) : Prop :=
  match alg with
  | .md5 => ∀ i : Fin 8, h[i].toNat < 2 ^ 32 ∧ (4 ≤ i.val → h[i] = 0)
  | .sha256 => ∀ i : Fin 8, h[i].toNat < 2 ^ 32
  | .sha512 => True

/-- What holds of the core at every observable state. -/
structure Inv (c : CoreState) : Prop where
  /-- R30: `BUSY` is 0 -/
  notBusy : c.busy = 0
  /-- R27, R38: `FILL < bs(ALG)` -/
  fillInBlock : c.fill.toNat < c.alg.blockSize
  /-- R331: the codes 6 and 7 are never produced -/
  errcodeProduced : c.errcode.toNat ≤ 5
  /-- R31: `HEXLEN` is at most 383 -/
  hexlenBound : c.hexlen.toNat ≤ 383
  /-- R31: `HEXBUF[k] = 0` for every `k ≥ HEXLEN` -/
  hexbufTail : ∀ k : Fin 384, c.hexlen.toNat ≤ k.val → c.hexbuf[k] = 0
  /-- R28, R38: during a run `ABS < LEN` -/
  runUnfinished : c.eng = .absorb → c.abs.toNat < c.len.toNat
  /-- R38: during a run `FILL = ABS mod bs(ALG)` -/
  runFill : c.eng = .absorb → c.fill.toNat = c.abs.toNat % c.alg.blockSize
  /-- R22: during a run nothing but the algorithm has written `H` -/
  runH : c.eng = .absorb → CanonicalH c.alg c.h

/-! ### The hash of a message, without the engine -/

/-- R215: the number of zero bytes between the mark and the length field. -/
def zeroCount (alg : Alg) (n : Nat) : Nat := (alg.threshold + alg.blockSize - n % alg.blockSize) % alg.blockSize

/-- R215: `m ‖ 0x80 ‖ 0x00^z ‖ lenfield(ALG, L)`. -/
def paddedMessage (alg : Alg) (m : List Byte) : List Byte :=
  m ++ [0x80] ++ List.replicate (zeroCount alg m.length) 0 ++ lenField alg (BitVec.ofNat 64 m.length)

/-- Block `k` of a byte string cut into blocks of `bs` bytes. -/
def blockOf (bs : Nat) (l : List Byte) (k : Nat) : List Byte := (l.drop (k * bs)).take bs

/-- A block in the block buffer, the rest of the buffer 0. -/
def blockBuf (block : List Byte) : Buf := Vector.ofFn fun k => listByte block k.val

/-- The blocks `0 .. n−1` of a byte string compressed in order into a state. -/
def compressBlocks (alg : Alg) (l : List Byte) (n : Nat) (h : HFile) : HFile :=
  (List.range n).foldl (fun h k => compress alg h (blockBuf (blockOf alg.blockSize l k))) h

/-- The hash state of a message: its padded message, cut into blocks, compressed from the initial value. -/
def hashState (alg : Alg) (m : List Byte) : HFile :=
  compressBlocks alg (paddedMessage alg m) ((paddedMessage alg m).length / alg.blockSize) (iv alg)

/-! ### Classes of operations -/

/-- The `OP` of the command an operation carries: that of its row, or that of the word written to `CMD`. -/
def opOf : Instr → Option (BitVec 4)
  | .nop => some 0
  | .init _ => some 1
  | .compress => some 2
  | .pad _ => some 3
  | .start _ => some 4
  | .hexDigest _ => some 5
  | .hexLe _ => some 5
  | .hexBe _ => some 5
  | .hexBuf _ _ => some 5
  | .wrCmd data => some (cmdOp data)
  | .wrLen _ _ => none
  | .wrData8 _ => none
  | .wrData32 _ => none
  | .wrH _ _ _ => none
  | .wrBufw _ _ => none
  | .rdStatus => none
  | .rdLen _ => none
  | .rdAbs _ => none
  | .rdFill => none
  | .rdHexlen => none
  | .rdDlen => none
  | .rdH _ _ => none
  | .rdBufw _ => none
  | .rdDigestw _ => none
  | .rdHexw _ => none
  | .rdHexwHigh _ => none

/-- R83, read bit by bit: the must-be-zero bits of the row of the word's `OP`. -/
def mustBeZeroMask (cmd : Word32) : Word32 :=
  match cmd.toNat % 16 with
  | 1 => 0xFFFFFFC0
  | 3 => 0xFF00FFF0
  | 4 => 0xFFFFFFC0
  | 5 => if cmd.toNat / 64 % 4 = 3 then 0xFF00FE30 else 0xFFFFFE30
  | _ => 0xFFFFFFF0

/-- R331, R332: the code a write of `cmd` to `CMD` leaves in `ERRCODE`, the fields read as digits of the word. -/
def outcomeCode (cmd : Word32) (alg : Alg) (eng : Eng) : Nat :=
  if 6 ≤ cmd.toNat % 16 then 1
  else if cmd &&& mustBeZeroMask cmd ≠ 0 then 2
  else if (cmd.toNat % 16 = 1 ∨ cmd.toNat % 16 = 4) ∧ cmd.toNat / 16 % 4 = 3 then 3
  else if cmd.toNat % 16 = 3 ∧ alg.blockSize ≤ cmd.toNat / 65536 % 256 then 4
  else if cmd.toNat % 16 = 5 ∧ cmd.toNat / 64 % 4 = 3 ∧ 128 < cmd.toNat / 65536 % 256 then 4
  else if (cmd.toNat % 16 = 2 ∨ cmd.toNat % 16 = 3) ∧ eng = .absorb then 5
  else 0

/-- The offsets that hold no register: R53's three reserved ranges, and `0x0C0 .. 0x0FC`, which R52 gives no register
and names nowhere (notes/assumptions/4.md). -/
abbrev unmappedOffset (offset : Nat) : Prop :=
  (0x02C ≤ offset ∧ offset < 0x080) ∨ (0x1C0 ≤ offset ∧ offset < 0x200) ∨ (0x380 ≤ offset ∧ offset < 0x400) ∨
    (0x0C0 ≤ offset ∧ offset < 0x100)

/-- The value of a byte string, most significant byte first. -/
def beValue (l : List Byte) : Nat := l.foldl (fun n b => n * 256 + b.toNat) 0

/-- The value of a byte string, least significant byte first. -/
def leValue (l : List Byte) : Nat := beValue l.reverse

/-- The primes below `n`, in order. -/
def primesBelow (n : Nat) : List Nat :=
  (List.range n).filter fun p => decide (2 ≤ p) && (List.range p).all fun d => decide (d < 2) || p % d != 0

/-- A data push (R243, R244). -/
def isPush : Instr → Bool
  | .wrData8 _ => true
  | .wrData32 _ => true
  | _ => false

/-- A read of the window (R56). -/
def isRead : Instr → Bool
  | .rdStatus => true
  | .rdLen _ => true
  | .rdAbs _ => true
  | .rdFill => true
  | .rdHexlen => true
  | .rdDlen => true
  | .rdH _ _ => true
  | .rdBufw _ => true
  | .rdDigestw _ => true
  | .rdHexw _ => true
  | .rdHexwHigh _ => true
  | _ => false

/-! ### The host's duties -/

/-- R338: the size guard, `LEN ≤ MAXLEN(alg)`. The core does not check it. -/
def sizeGuard (alg : Alg) (len : Word64) : Prop := len.toNat ≤ alg.maxLen

/-- R376: what raw use must keep true for `PAD r` to give the digest of `m`: `LEN` is its length, `r` its tail length,
`H` the state after its full blocks, and the tail stands in `BUF`. -/
structure RawPadDuty (alg : Alg) (m : List Byte) (r : Nat) (c : CoreState) : Prop where
  algorithm : c.alg = alg
  length : c.len.toNat = m.length
  tail : r = m.length % alg.blockSize
  state : c.h = compressBlocks alg m (m.length / alg.blockSize) (iv alg)
  bytes : ∀ k < r, byteAt c.buf k = listByte m (m.length / alg.blockSize * alg.blockSize + k)

end Sys2Proof.Machine
end

