-- ==== Sys2Proof/Certificates/Slice0/Obligations.lean ====
section
/-! DEFINITION. The statements about the model. A core after an operation is written as a record update of the core
before it, so each equation says what the operation changes and that it changes nothing else of the core; `response` is
the model's own field (notes/assumptions/2.md) and is left open where a rule of the spec does not speak of an answer. -/

open Sys2Proof Sys2Proof.Machine

/-! ### Encoding and decoding -/

/-- R81, R84, R88, R52: words and accesses written out from the spec's tables decode to what they stand for. -/
def Obligations.SampleWordsDecode : Prop :=
  decode (.command 0b00000000000000000000000000000000#32) = .ok .nop ∧
  decode (.command 0b00000000000000000000000000010001#32) = .ok (.init 1) ∧
  decode (.command 0b00000000000000000000000000000010#32) = .ok .compress ∧
  decode (.command 0b00000000001110000000000000000011#32) = .ok (.pad 56) ∧
  decode (.command 0b00000000000000000000000000100100#32) = .ok (.start 2) ∧
  decode (.command 0b00000000000000000000000100000101#32) = .ok (.hexDigest true) ∧
  decode (.command 0b00000000000000000000000001000101#32) = .ok (.hexLe false) ∧
  decode (.command 0b00000000000000000000000110000101#32) = .ok (.hexBe true) ∧
  decode (.command 0b00000000000000110000000111000101#32) = .ok (.hexBuf 3 true) ∧
  decode (.access (.write 32 0x00C 7)) = .ok (.wrLen .hi 7) ∧
  decode (.access (.write 32 0x094 7)) = .ok (.wrH 2 .hi 7) ∧
  decode (.access (.write 32 0x17C 7)) = .ok (.wrBufw 31 7) ∧
  decode (.access (.read 32 0x1BC)) = .ok (.rdDigestw 15) ∧
  decode (.access (.read 32 0x2FC)) = .ok (.rdHexw 63) ∧
  decode (.access (.read 32 0x37C)) = .ok (.rdHexwHigh 95)

/-- Every well-formed operation is read back from its encoding, with every operand at every value. -/
def Obligations.DecodeInvertsEncode : Prop :=
  ∀ i : Instr, WellFormed i → decode (encode i) = .ok i

/-- What decodes to an operation is that operation's encoding: no bit of a command word and no part of an access is
dropped. -/
def Obligations.EncodeInvertsDecode : Prop :=
  ∀ (o : HostOp) (i : Instr), decode o = .ok i → WellFormed i ∧ encode i = o

/-- R83, R84, R86: `OP` from 6 on is illegal whatever the other bits, a set must-be-zero bit of a smaller `OP` is a
reserved-bits rejection, every other word has a form, and no word fits two forms. -/
def Obligations.EveryCommandWordHasOneForm : Prop :=
  ∀ cmd : Word32,
    (decodeCommand cmd = .error .illegalOp ↔ 6 ≤ cmd.toNat % 16) ∧
    (decodeCommand cmd = .error .reservedBits ↔ cmd.toNat % 16 < 6 ∧ cmd &&& mustBeZeroMask cmd ≠ 0) ∧
    ((∃ i, decodeCommand cmd = .ok i) ↔ cmd.toNat % 16 < 6 ∧ cmd &&& mustBeZeroMask cmd = 0) ∧
    (cmdForms.filter fun f => f.fits cmd).length ≤ 1

/-- R51, R53, R54, R333: which accesses of the window are bus errors, and of which cause, the first in R333's order.
That `0x0C0 .. 0x0FC` is unmapped is the model's choice (notes/assumptions/4.md). -/
def Obligations.BusErrorCausesInOrder : Prop :=
  ∀ (width offset : Nat) (data : Word32), offset < 0x400 →
    (decode (.access (.read width offset)) = .error (.bus .width) ↔ width ≠ 32) ∧
    (decode (.access (.write width offset data)) = .error (.bus .width) ↔ width ≠ 32) ∧
    (decode (.access (.read width offset)) = .error (.bus .misaligned) ↔ width = 32 ∧ offset % 4 ≠ 0) ∧
    (decode (.access (.write width offset data)) = .error (.bus .misaligned) ↔ width = 32 ∧ offset % 4 ≠ 0) ∧
    (decode (.access (.read width offset)) = .error (.bus .unmapped) ↔
      width = 32 ∧ offset % 4 = 0 ∧ unmappedOffset offset) ∧
    (decode (.access (.write width offset data)) = .error (.bus .unmapped) ↔
      width = 32 ∧ offset % 4 = 0 ∧ unmappedOffset offset) ∧
    (decode (.access (.read width offset)) = .error (.bus .writeOnly) ↔
      width = 32 ∧ (offset = 0x000 ∨ offset = 0x010 ∨ offset = 0x014)) ∧
    (decode (.access (.write width offset data)) = .error (.bus .readOnly) ↔
      width = 32 ∧ offset % 4 = 0 ∧
        (offset = 0x004 ∨ (0x018 ≤ offset ∧ offset ≤ 0x028) ∨ (0x180 ≤ offset ∧ offset < 0x1C0) ∨
          (0x200 ≤ offset ∧ offset < 0x380))) ∧
    decode (.access (.read width offset)) ≠ .error (.bus .readOnly) ∧
    decode (.access (.write width offset data)) ≠ .error (.bus .writeOnly)

/-! ### Steps -/

/-- A step runs the operation the next host move decodes to, with the move taken from the queue. -/
def Obligations.StepRunsDecodedOperation : Prop :=
  ∀ (s : State) (o : HostOp) (rest : List HostMove) (i : Instr),
    s.core.busy = 0 → s.pending = .op o :: rest → decode o = .ok i → step s = exec i { s with pending := rest }

/-- R333: a refused access gets its error response, changes nothing of the core, and the host goes on. -/
def Obligations.StepAnswersBusError : Prop :=
  ∀ (s : State) (a : Access) (rest : List HostMove) (cause : BusError),
    s.core.busy = 0 → s.pending = .op (.access a) :: rest → decode (.access a) = .error (.bus cause) →
      step s = .next { s with pending := rest, response := .busError cause }

/-- R80, R85, R88: a command is the write of its word to `CMD`, for every word, accepted or rejected. Commands as host
operations of their own, and the queue they wait in, are the model's (notes/assumptions/8.md, 1.md). -/
def Obligations.StepOnCommandIsWriteOfCmd : Prop :=
  ∀ (s : State) (cmd : Word32) (rest : List HostMove), s.core.busy = 0 →
    step { s with pending := .op (.command cmd) :: rest } =
      step { s with pending := .op (.access (.write 32 0x000 cmd)) :: rest }

/-- R370: reset at any time, during a command too, gives every state element its reset value. -/
def Obligations.ResetInputClearsCore : Prop :=
  ∀ (s : State) (rest : List HostMove), s.pending = .reset :: rest →
    ∃ t : State, step s = .next t ∧ t.pending = rest ∧
      (∀ i : Fin 8, t.core.h[i] = 0) ∧ (∀ k : Fin 128, t.core.buf[k] = 0) ∧
      t.core.len = 0 ∧ t.core.abs = 0 ∧ t.core.fill = 0 ∧ t.core.alg = .md5 ∧ t.core.eng = .idle ∧
      t.core.errcode = 0 ∧ t.core.busy = 0 ∧ (∀ k : Fin 384, t.core.hexbuf[k] = 0) ∧ t.core.hexlen = 0 ∧
      statusWord t.core = 0 ∧ t.core.alg.digestBytes = 16

/-- R50, R373 and notes/assumptions/6.md: a busy core serves no operation until the command in progress ends, and a
core to which the host sends nothing stays as it is. -/
def Obligations.StepHoldsOrWaits : Prop :=
  ∀ s : State,
    (s.core.busy ≠ 0 → s.pending.head? ≠ some .reset →
      step s = .next { s with core := { s.core with busy := 0 } }) ∧
    (s.core.busy = 0 → s.pending = [] → step s = .next s)

/-- R52, R87: the machine stops on nothing but an access outside the window, which does not reach the core. That the
model stops there, and goes on after every bus error, is the model's choice (notes/assumptions/3.md), as is the queue
of pending moves (notes/assumptions/1.md). -/
def Obligations.StepStopsOnlyOutsideWindow : Prop :=
  ∀ s : State, (∃ t, step s = .next t) ∨
    ∃ (rest : List HostMove) (width offset : Nat), 0x400 ≤ offset ∧
      (s.pending = .op (.access (.read width offset)) :: rest ∨
        ∃ data, s.pending = .op (.access (.write width offset data)) :: rest) ∧
      step s = .fault (.outsideWindow offset)

/-- R370, R371: the machine after reset reads as the spec says, and holds no initial value. -/
def Obligations.ResetStateReadsZero : Prop :=
  (∀ i : Fin 8, State.reset.core.h[i] = 0) ∧ State.reset.core.alg = .md5 ∧ State.reset.core.eng = .idle ∧
  State.reset.core.len = 0 ∧ State.reset.core.abs = 0 ∧ State.reset.core.fill = 0 ∧ State.reset.core.hexlen = 0 ∧
  exec .rdStatus State.reset = .next { State.reset with response := .value 0 } ∧
  exec .rdDlen State.reset = .next { State.reset with response := .value 16 } ∧
  (∀ k : Fin 16, exec (.rdDigestw k) State.reset = .next { State.reset with response := .value 0 })

/-! ### The invariant and the whole machine -/

/-- The invariant holds after reset. -/
def Obligations.ResetMeetsObservableInvariant : Prop := Inv State.reset.core

/-- Every step keeps the invariant of every observable state: `FILL < bs`, `ABS < LEN` and `FILL = ABS mod bs` during
a run, no error code above 5, `HEXBUF` 0 from `HEXLEN` on, `BUSY` 0, and `H` as the algorithm leaves it during a run. -/
def Obligations.StepKeepsObservableInvariant : Prop :=
  ∀ s t : State, Inv s.core → step s = .next t → Inv t.core

/-- No operation fails: each ends in a next state, leaves the host's pending moves alone, answers `written` unless it is
a read (notes/assumptions/2.md), and changes nothing of the core when it is a read. -/
def Obligations.EveryOperationCompletes : Prop :=
  ∀ (i : Instr) (s : State), ∃ (c : CoreState) (r : Response), exec i s = .next { s with core := c, response := r } ∧
    (isRead i = false → r = .written) ∧ (isRead i = true → c = s.core)

/-- R21, R23 to R25, R27 to R29, R31: which operations may change each register, and in which engine states. -/
def Obligations.RegistersChangeOnlyByTheirWriters : Prop :=
  ∀ (i : Instr) (s t : State), exec i s = .next t →
    (t.core.len ≠ s.core.len → s.core.eng ≠ .absorb ∧ ∃ half data, i = .wrLen half data) ∧
    (t.core.alg ≠ s.core.alg → opOf i = some 1 ∨ opOf i = some 4) ∧
    (t.core.errcode ≠ s.core.errcode → (opOf i).isSome = true) ∧
    ((t.core.hexbuf ≠ s.core.hexbuf ∨ t.core.hexlen ≠ s.core.hexlen) → opOf i = some 5) ∧
    ((t.core.fill ≠ s.core.fill ∨ t.core.abs ≠ s.core.abs) →
      opOf i = some 1 ∨ opOf i = some 4 ∨ (isPush i = true ∧ s.core.eng = .absorb)) ∧
    (t.core.h ≠ s.core.h →
      opOf i = some 1 ∨ opOf i = some 4 ∨ ((opOf i = some 2 ∨ opOf i = some 3) ∧ s.core.eng ≠ .absorb) ∨
        (isPush i = true ∧ s.core.eng = .absorb) ∨ (s.core.eng ≠ .absorb ∧ ∃ k half data, i = .wrH k half data)) ∧
    (t.core.buf ≠ s.core.buf →
      (opOf i = some 4 ∧ s.core.len = 0) ∨ (opOf i = some 3 ∧ s.core.eng ≠ .absorb) ∨
        (isPush i = true ∧ s.core.eng = .absorb) ∨ (s.core.eng ≠ .absorb ∧ ∃ k data, i = .wrBufw k data)) ∧
    t.core.busy = s.core.busy

/-- R23: under a 64-byte algorithm nothing but the BUF window writes `BUF[64..127]`. -/
def Obligations.UpperBufferWrittenOnlyByWindow : Prop :=
  ∀ (i : Instr) (s t : State), Inv s.core → exec i s = .next t → t.core.alg.blockSize = 64 →
    (∀ (k : Fin 32) (data : Word32), i ≠ .wrBufw k data) →
      ∀ k, 64 ≤ k → k < 128 → byteAt t.core.buf k = byteAt s.core.buf k

/-- R26: `ENG` changes only as the table of transitions says. -/
def Obligations.EngineTransitionsAreTheTable : Prop :=
  ∀ (i : Instr) (s t : State), exec i s = .next t →
    t.core.eng = s.core.eng ∨
    (t.core.eng = .idle ∧ (opOf i = some 1 ∨ (opOf i = some 2 ∧ s.core.eng ≠ .absorb))) ∨
    (t.core.eng = .absorb ∧ opOf i = some 4 ∧ s.core.len ≠ 0) ∨
    (t.core.eng = .final ∧
      ((opOf i = some 4 ∧ s.core.len = 0) ∨ (opOf i = some 3 ∧ s.core.eng ≠ .absorb) ∨
        (isPush i = true ∧ s.core.eng = .absorb ∧ t.core.abs = t.core.len)))

/-! ### Commands -/

/-- R85, R331, R332: the code a write of `CMD` leaves is that of the first cause in order, and a rejected command
changes nothing but the code. -/
def Obligations.CmdWriteRecordsFirstCause : Prop :=
  ∀ (cmd : Word32) (s : State), ∃ (c : CoreState) (r : Response),
    exec (.wrCmd cmd) s = .next { s with core := c, response := r } ∧
    c.errcode.toNat = outcomeCode cmd s.core.alg s.core.eng ∧
    (outcomeCode cmd s.core.alg s.core.eng ≠ 0 →
      c = { s.core with errcode := BitVec.ofNat 3 (outcomeCode cmd s.core.alg s.core.eng) })

/-- R85: an accepted word written to `CMD` runs the operation of its form, and `ERRCODE` becomes 0. -/
def Obligations.CmdWriteRunsAcceptedCommand : Prop :=
  ∀ (cmd : Word32) (s : State) (i : Instr),
    decodeCommand cmd = .ok i → outcomeCode cmd s.core.alg s.core.eng = 0 →
      ∃ t : State, exec (.wrCmd cmd) s = .next t ∧ exec i s = .next t ∧ t.core.errcode = 0

/-- R300: `NOP` clears `ERRCODE` and does nothing else, in every engine state. -/
def Obligations.NopClearsErrcode : Prop :=
  ∀ s : State, ∃ r, exec .nop s = .next { s with core := { s.core with errcode := 0 }, response := r }

/-- R140, R170, R171, R301: `INIT` loads the algorithm's initial value, written out. -/
def Obligations.InitLoadsInitialValue : Prop :=
  ∀ s : State,
    (∃ r, exec (.init 0) s = .next { s with
      core := { s.core with
        alg := .md5, eng := .idle, fill := 0, abs := 0, errcode := 0,
        h := #v[0x67452301, 0xEFCDAB89, 0x98BADCFE, 0x10325476, 0, 0, 0, 0] },
      response := r }) ∧
    (∃ r, exec (.init 1) s = .next { s with
      core := { s.core with
        alg := .sha256, eng := .idle, fill := 0, abs := 0, errcode := 0,
        h := #v[0x6a09e667, 0xbb67ae85, 0x3c6ef372, 0xa54ff53a, 0x510e527f, 0x9b05688c, 0x1f83d9ab, 0x5be0cd19] },
      response := r }) ∧
    (∃ r, exec (.init 2) s = .next { s with
      core := { s.core with
        alg := .sha512, eng := .idle, fill := 0, abs := 0, errcode := 0,
        h := #v[0x6a09e667f3bcc908, 0xbb67ae8584caa73b, 0x3c6ef372fe94f82b, 0xa54ff53a5f1d36f1,
          0x510e527fade682d1, 0x9b05688c2b3e6c1f, 0x1f83d9abfb41bd6b, 0x5be0cd19137e2179] },
      response := r })

/-- R302: `COMPRESS` outside a run applies the compression function of `ALG` to `H` and `BUF` once. -/
def Obligations.CompressAppliesSelectedFunction : Prop :=
  ∀ s : State, s.core.eng ≠ .absorb →
    ∃ r, exec .compress s = .next { s with
      core := { s.core with
        h := (match s.core.alg with
          | .md5 => md5Compress s.core.h s.core.buf
          | .sha256 => sha256Compress s.core.h s.core.buf
          | .sha512 => sha512Compress s.core.h s.core.buf),
        eng := .idle, errcode := 0 },
      response := r }

/-- R211, R212: `PAD r` with a tail that leaves room for the length field: one block, its bytes written out. -/
def Obligations.PadWithinOneBlock : Prop :=
  ∀ (r : Byte) (s : State),
    s.core.eng ≠ .absorb →
    r.toNat ≤ (match s.core.alg with | .md5 => 55 | .sha256 => 55 | .sha512 => 111) →
      ∃ (b : Buf) (resp : Response),
        (∀ k < 128, byteAt b k =
          if k < r.toNat then byteAt s.core.buf k
          else if k = r.toNat then 0x80
          else if k < s.core.alg.blockSize - s.core.alg.lenFieldBytes then 0
          else if k < s.core.alg.blockSize then
            listByte (lenField s.core.alg s.core.len) (k - (s.core.alg.blockSize - s.core.alg.lenFieldBytes))
          else byteAt s.core.buf k) ∧
        exec (.pad r) s = .next { s with
          core := { s.core with
            buf := b, h := compress s.core.alg s.core.h b, eng := .final, errcode := 0 },
          response := resp }

/-- R211, R212: `PAD r` with a longer tail: two blocks, the bytes of each written out, the second compressed after the
first. -/
def Obligations.PadOverTwoBlocks : Prop :=
  ∀ (r : Byte) (s : State),
    s.core.eng ≠ .absorb →
    (match s.core.alg with | .md5 => 55 | .sha256 => 55 | .sha512 => 111) < r.toNat →
    r.toNat < s.core.alg.blockSize →
      ∃ (b1 b2 : Buf) (resp : Response),
        (∀ k < 128, byteAt b1 k =
          if k < r.toNat then byteAt s.core.buf k
          else if k = r.toNat then 0x80
          else if k < s.core.alg.blockSize then 0
          else byteAt s.core.buf k) ∧
        (∀ k < 128, byteAt b2 k =
          if k < s.core.alg.blockSize - s.core.alg.lenFieldBytes then 0
          else if k < s.core.alg.blockSize then
            listByte (lenField s.core.alg s.core.len) (k - (s.core.alg.blockSize - s.core.alg.lenFieldBytes))
          else byteAt s.core.buf k) ∧
        exec (.pad r) s = .next { s with
          core := { s.core with
            buf := b2, h := compress s.core.alg (compress s.core.alg s.core.h b1) b2, eng := .final, errcode := 0 },
          response := resp }

/-- R85, R331: the rejections that a form's field values and the engine's state cause, each with its code and with no
other change. `PAD` checks its count before the engine. -/
def Obligations.RejectedFormsChangeOnlyErrcode : Prop :=
  ∀ s : State,
    (∃ r, exec (.init 3) s = .next { s with core := { s.core with errcode := 3 }, response := r }) ∧
    (∃ r, exec (.start 3) s = .next { s with core := { s.core with errcode := 3 }, response := r }) ∧
    (s.core.eng = .absorb →
      ∃ r, exec .compress s = .next { s with core := { s.core with errcode := 5 }, response := r }) ∧
    (∀ n : Byte, s.core.alg.blockSize ≤ n.toNat →
      ∃ r, exec (.pad n) s = .next { s with core := { s.core with errcode := 4 }, response := r }) ∧
    (∀ n : Byte, n.toNat < s.core.alg.blockSize → s.core.eng = .absorb →
      ∃ r, exec (.pad n) s = .next { s with core := { s.core with errcode := 5 }, response := r }) ∧
    (∀ (n : Byte) (d : Bool), 128 < n.toNat →
      ∃ r, exec (.hexBuf n d) s = .next { s with core := { s.core with errcode := 4 }, response := r })

/-- R241: `START` with a length other than 0 begins a run, in every engine state, and leaves `BUF` alone. -/
def Obligations.StartBeginsRun : Prop :=
  ∀ (a : Alg) (s : State), s.core.len ≠ 0 →
    ∃ r, exec (.start a.code) s = .next { s with
      core := { s.core with alg := a, h := iv a, fill := 0, abs := 0, eng := .absorb, errcode := 0 }, response := r }

/-- R241: `START` with length 0 ends the run at once, with one compression of `80 00 … 00` and an all-zero length
field. -/
def Obligations.StartOfEmptyMessageEndsRun : Prop :=
  ∀ (a : Alg) (s : State), s.core.len = 0 →
    ∃ (b : Buf) (r : Response),
      (∀ k < 128, byteAt b k =
        if k = 0 then 0x80 else if k < a.blockSize then 0 else byteAt s.core.buf k) ∧
      exec (.start a.code) s = .next { s with
        core := { s.core with
          alg := a, h := compress a (iv a) b, buf := b, fill := 0, abs := 0, eng := .final, errcode := 0 },
        response := r }

/-! ### The hex encoder -/

/-- R273 to R277: each form of `HEX` writes its encoding into `HEXBUF`, zeros after it, and its length into `HEXLEN`,
and changes nothing else but `ERRCODE`. -/
def Obligations.HexFormsFillHexbuf : Prop :=
  ∀ (d : Bool) (s : State),
    (∃ (hb : HexBuf) (r : Response),
      (∀ k < 384, byteAt hb k = listByte (hexBytes d (serialize s.core.alg s.core.h)) k) ∧
      exec (.hexDigest d) s = .next { s with
        core := { s.core with
          hexbuf := hb, errcode := 0,
          hexlen := BitVec.ofNat 9
            (if d then 3 * s.core.alg.digestBytes - 1 else 2 * s.core.alg.digestBytes) },
        response := r }) ∧
    (∃ (hb : HexBuf) (r : Response),
      (∀ k < 384, byteAt hb k = listByte (hexBytes d (stateBytes s.core.alg .le s.core.h)) k) ∧
      exec (.hexLe d) s = .next { s with
        core := { s.core with
          hexbuf := hb, errcode := 0,
          hexlen := BitVec.ofNat 9
            (if d then 3 * s.core.alg.digestBytes - 1 else 2 * s.core.alg.digestBytes) },
        response := r }) ∧
    (∃ (hb : HexBuf) (r : Response),
      (∀ k < 384, byteAt hb k = listByte (hexBytes d (stateBytes s.core.alg .be s.core.h)) k) ∧
      exec (.hexBe d) s = .next { s with
        core := { s.core with
          hexbuf := hb, errcode := 0,
          hexlen := BitVec.ofNat 9
            (if d then 3 * s.core.alg.digestBytes - 1 else 2 * s.core.alg.digestBytes) },
        response := r }) ∧
    (∀ n : Byte, n.toNat ≤ 128 → ∃ (hb : HexBuf) (r : Response),
      (∀ k < 384, byteAt hb k = listByte (hexBytes d ((List.range n.toNat).map (byteAt s.core.buf))) k) ∧
      exec (.hexBuf n d) s = .next { s with
        core := { s.core with
          hexbuf := hb, errcode := 0,
          hexlen := BitVec.ofNat 9 (if d then 3 * n.toNat - 1 else 2 * n.toNat) },
        response := r })

/-- R270, R271: the length of an encoding, the two lowercase characters of each byte, the high nibble first, and the
':' between adjacent bytes. -/
def Obligations.HexBytesPlacesCharacters : Prop :=
  (∀ v : BitVec 4, hexChar v =
    ([0x30, 0x31, 0x32, 0x33, 0x34, 0x35, 0x36, 0x37, 0x38, 0x39, 0x61, 0x62, 0x63, 0x64, 0x65, 0x66] : List Byte).getD
      v.toNat 0) ∧
  ∀ (d : Bool) (x : List Byte),
    (hexBytes d x).length = (if d then 3 * x.length - 1 else 2 * x.length) ∧
    ∀ k < x.length,
      listByte (hexBytes d x) (if d then 3 * k else 2 * k) = hexChar ((listByte x k).extractLsb' 4 4) ∧
      listByte (hexBytes d x) ((if d then 3 * k else 2 * k) + 1) = hexChar ((listByte x k).extractLsb' 0 4) ∧
      (d = true → k + 1 < x.length → listByte (hexBytes d x) (3 * k + 2) = 0x3A)

/-- R278: the round trip: an encoding determines the bytes it came from. -/
def Obligations.HexEncodingIsInjective : Prop :=
  ∀ (d : Bool) (x y : List Byte), hexBytes d x = hexBytes d y → x = y

/-- R275, R276: for MD5 `HEX le` equals `HEX digest`; for SHA-256 and SHA-512 `HEX be` equals it. -/
def Obligations.HexOrdersAgreeWithDigest : Prop :=
  ∀ (d : Bool) (s : State),
    (s.core.alg = .md5 → exec (.hexLe d) s = exec (.hexDigest d) s) ∧
    (s.core.alg ≠ .md5 → exec (.hexBe d) s = exec (.hexDigest d) s)

/-- R119: the digest's length and each of its bytes, as bits of the state words. -/
def Obligations.DigestBytesAreStateBits : Prop :=
  ∀ h : HFile,
    (serialize .md5 h).length = 16 ∧ (serialize .sha256 h).length = 32 ∧ (serialize .sha512 h).length = 64 ∧
    (∀ i < 4, ∀ j < 4, listByte (serialize .md5 h) (4 * i + j) = (hReg h i).extractLsb' (8 * j) 8) ∧
    (∀ i < 8, ∀ j < 4, listByte (serialize .sha256 h) (4 * i + j) = (hReg h i).extractLsb' (8 * (3 - j)) 8) ∧
    (∀ i < 8, ∀ j < 8, listByte (serialize .sha512 h) (8 * i + j) = (hReg h i).extractLsb' (8 * (7 - j)) 8)

/-! ### The register window -/

/-- R57, R55: outside a run a write of `LEN`, `H` or `BUF` replaces the half or the four bytes it names, and nothing
else. -/
def Obligations.StorageWritesReplaceOnePart : Prop :=
  ∀ (s : State) (data : Word32), s.core.eng ≠ .absorb →
    (∃ r, exec (.wrLen .lo data) s = .next { s with
      core := { s.core with len := (s.core.len >>> 32) <<< 32 ||| data.setWidth 64 }, response := r }) ∧
    (∃ r, exec (.wrLen .hi data) s = .next { s with
      core := { s.core with len := data.setWidth 64 <<< 32 ||| (s.core.len <<< 32) >>> 32 }, response := r }) ∧
    (∀ i : Fin 8, ∃ r, exec (.wrH i .lo data) s = .next { s with
      core := { s.core with h := s.core.h.set i ((s.core.h[i] >>> 32) <<< 32 ||| data.setWidth 64) },
      response := r }) ∧
    (∀ i : Fin 8, ∃ r, exec (.wrH i .hi data) s = .next { s with
      core := { s.core with h := s.core.h.set i (data.setWidth 64 <<< 32 ||| (s.core.h[i] <<< 32) >>> 32) },
      response := r }) ∧
    (∀ k : Fin 32, ∃ (b : Buf) (r : Response),
      (∀ n < 128, byteAt b n =
        if 4 * k.val ≤ n ∧ n < 4 * k.val + 4 then data.extractLsb' (8 * (n - 4 * k.val)) 8
        else byteAt s.core.buf n) ∧
      exec (.wrBufw k data) s = .next { s with core := { s.core with buf := b }, response := r })

/-- R57, R375: during a run those writes complete and change nothing of the core. -/
def Obligations.StorageWritesIgnoredDuringRun : Prop :=
  ∀ (s : State) (data : Word32), s.core.eng = .absorb →
    (∀ half, ∃ r, exec (.wrLen half data) s = .next { s with response := r }) ∧
    (∀ i half, ∃ r, exec (.wrH i half data) s = .next { s with response := r }) ∧
    (∀ k, ∃ r, exec (.wrBufw k data) s = .next { s with response := r })

/-- R59: repeating a write of `LEN`, `H` or `BUF` changes nothing more. -/
def Obligations.StorageWritesAreIdempotent : Prop :=
  ∀ (i : Instr) (s t : State),
    ((∃ half data, i = .wrLen half data) ∨ (∃ k half data, i = .wrH k half data) ∨ (∃ k data, i = .wrBufw k data)) →
    exec i s = .next t → exec i t = .next t

/-- R33, R56: a read of `STATUS` returns each field in its place and 0 in the reserved bits. -/
def Obligations.StatusReadPacksFields : Prop :=
  ∀ s : State, ∃ v : Word32, exec .rdStatus s = .next { s with response := .value v } ∧
    v.extractLsb' 0 1 = s.core.busy ∧
    v.extractLsb' 1 2 = (match s.core.eng with | .idle => 0 | .absorb => 1 | .final => 2) ∧
    v.extractLsb' 3 1 = 0 ∧
    v.extractLsb' 4 2 = (match s.core.alg with | .md5 => 0 | .sha256 => 1 | .sha512 => 2) ∧
    v.extractLsb' 6 2 = 0 ∧
    v.extractLsb' 8 3 = s.core.errcode ∧
    v.extractLsb' 11 21 = 0

/-- R56: the reads of `LEN`, `ABS`, `FILL`, `HEXLEN`, `DLEN` and `H`. -/
def Obligations.RegisterReadsReturnValues : Prop :=
  ∀ s : State,
    exec (.rdLen .lo) s = .next { s with response := .value (s.core.len.setWidth 32) } ∧
    exec (.rdLen .hi) s = .next { s with response := .value ((s.core.len >>> 32).setWidth 32) } ∧
    exec (.rdAbs .lo) s = .next { s with response := .value (s.core.abs.setWidth 32) } ∧
    exec (.rdAbs .hi) s = .next { s with response := .value ((s.core.abs >>> 32).setWidth 32) } ∧
    exec .rdFill s = .next { s with response := .value (BitVec.ofNat 32 s.core.fill.toNat) } ∧
    exec .rdHexlen s = .next { s with response := .value (BitVec.ofNat 32 s.core.hexlen.toNat) } ∧
    exec .rdDlen s = .next { s with
      response := .value (match s.core.alg with | .md5 => 16 | .sha256 => 32 | .sha512 => 64) } ∧
    (∀ i : Fin 8, exec (.rdH i .lo) s = .next { s with response := .value (s.core.h[i].setWidth 32) }) ∧
    (∀ i : Fin 8, exec (.rdH i .hi) s = .next { s with response := .value ((s.core.h[i] >>> 32).setWidth 32) })

/-- R55, R56: the reads of the byte arrays: byte `4k + j` stands in bits `[8j+7 : 8j]`; a digest byte from `DLEN` on
reads 0. -/
def Obligations.ByteArrayReadsUseLittleEndianLanes : Prop :=
  ∀ s : State,
    (∀ k : Fin 32, ∃ v : Word32, exec (.rdBufw k) s = .next { s with response := .value v } ∧
      ∀ j < 4, v.extractLsb' (8 * j) 8 = byteAt s.core.buf (4 * k.val + j)) ∧
    (∀ k : Fin 16, ∃ v : Word32, exec (.rdDigestw k) s = .next { s with response := .value v } ∧
      ∀ j < 4, v.extractLsb' (8 * j) 8 =
        if 4 * k.val + j < s.core.alg.digestBytes then listByte (serialize s.core.alg s.core.h) (4 * k.val + j)
        else 0) ∧
    (∀ k : Fin 96, ∃ v : Word32, exec (.rdHexw k) s = .next { s with response := .value v } ∧
      exec (.rdHexwHigh k) s = .next { s with response := .value v } ∧
      ∀ j < 4, v.extractLsb' (8 * j) 8 = byteAt s.core.hexbuf (4 * k.val + j))

/-! ### The streaming engine -/

/-- R245: a byte pushed outside a run is dropped and changes nothing of the core. -/
def Obligations.PushOutsideRunIsDropped : Prop :=
  ∀ (s : State) (data : Word32), s.core.eng ≠ .absorb →
    (∃ r, exec (.wrData8 data) s = .next { s with response := r }) ∧
    (∃ r, exec (.wrData32 data) s = .next { s with response := r })

/-- R242, R243: a byte that neither fills its block nor ends the run is stored at `BUF[FILL]` and counted. -/
def Obligations.PushStoresByteInBlock : Prop :=
  ∀ (s : State) (data : Word32),
    s.core.eng = .absorb → s.core.fill.toNat + 1 < s.core.alg.blockSize → s.core.abs + 1 ≠ s.core.len →
      ∃ (b : Buf) (r : Response),
        (∀ k < 128, byteAt b k = if k = s.core.fill.toNat then data.extractLsb' 0 8 else byteAt s.core.buf k) ∧
        exec (.wrData8 data) s = .next { s with
          core := { s.core with buf := b, fill := s.core.fill + 1, abs := s.core.abs + 1 }, response := r }

/-- R242, R243: a byte that fills its block and does not end the run makes the block compressed. -/
def Obligations.PushCompressesFullBlock : Prop :=
  ∀ (s : State) (data : Word32),
    s.core.eng = .absorb → s.core.fill.toNat + 1 = s.core.alg.blockSize → s.core.abs + 1 ≠ s.core.len →
      ∃ (b : Buf) (r : Response),
        (∀ k < 128, byteAt b k = if k = s.core.fill.toNat then data.extractLsb' 0 8 else byteAt s.core.buf k) ∧
        exec (.wrData8 data) s = .next { s with
          core := { s.core with
            buf := b, h := compress s.core.alg s.core.h b, fill := 0, abs := s.core.abs + 1 },
          response := r }

/-- R242, R246: the last declared byte ends the run: a block it fills is compressed first, and then the tail of
`FILL` bytes is padded. -/
def Obligations.LastPushPadsAndEndsRun : Prop :=
  ∀ (s : State) (data : Word32),
    s.core.eng = .absorb → s.core.fill.toNat + 1 ≤ s.core.alg.blockSize → s.core.abs + 1 = s.core.len →
      ∃ (b : Buf) (c : CoreState) (r : Response),
        (∀ k < 128, byteAt b k = if k = s.core.fill.toNat then data.extractLsb' 0 8 else byteAt s.core.buf k) ∧
        c = (if s.core.fill.toNat + 1 = s.core.alg.blockSize then
            { s.core with buf := b, h := compress s.core.alg s.core.h b, fill := 0, abs := s.core.len }
          else { s.core with buf := b, fill := s.core.fill + 1, abs := s.core.len }) ∧
        exec (.wrData8 data) s = .next { s with core := { pad c.fill.toNat c with eng := .final }, response := r }

/-- R244: a write of `DATA32` is the four writes of `DATA8` of its lanes, the least significant first. -/
def Obligations.Data32IsFourData8Writes : Prop :=
  ∀ (s : State) (data : Word32), ∃ t1 t2 t3 t4 : State,
    exec (.wrData8 ((data.extractLsb' 0 8).setWidth 32)) s = .next t1 ∧
    exec (.wrData8 ((data.extractLsb' 8 8).setWidth 32)) t1 = .next t2 ∧
    exec (.wrData8 ((data.extractLsb' 16 8).setWidth 32)) t2 = .next t3 ∧
    exec (.wrData8 ((data.extractLsb' 24 8).setWidth 32)) t3 = .next t4 ∧
    ∃ r, exec (.wrData32 data) s = .next { t4 with response := r }

/-- R215, R240, R246, R248: for every algorithm and every message, the engine started with the message's length and fed
its bytes ends its run with the hash of the padded message. For a SHA-256 length of `2^61` bytes or more that is the
hash with R120's truncated length field (notes/assumptions/14.md). -/
def Obligations.StreamingRunHashesMessage : Prop :=
  ∀ (alg : Alg) (m : List Byte) (c : CoreState), c.len.toNat = m.length →
    (pushAll m (startEffect alg c)).h = hashState alg m ∧
    (pushAll m (startEffect alg c)).eng = .final ∧
    (pushAll m (startEffect alg c)).abs = c.len ∧
    (pushAll m (startEffect alg c)).fill.toNat = m.length % alg.blockSize

/-- R89, R248, R372: the same on the bus: from every state outside a run, the host's `SETLEN`, `START` and `PUSH` of any
message, its bytes grouped into `DATA32` and `DATA8` writes, end with the hash of the message in `H`: for a SHA-256
length of `2^61` bytes or more, the hash with R120's truncated length field (notes/assumptions/14.md). The queue of
pending moves is the model's own (notes/assumptions/1.md). -/
def Obligations.BusSequenceHashesMessage : Prop :=
  ∀ (alg : Alg) (m : List Byte) (s : State),
    m.length < 2 ^ 64 → s.core.busy = 0 → s.core.eng ≠ .absorb →
    s.pending =
      (setLenOps (BitVec.ofNat 64 m.length) ++ [encode (.start alg.code)] ++ pushOps m).map HostMove.op →
      ∃ t : State, Host.Core.run Sys2Proof.core s.pending.length s = .next t ∧ t.pending = [] ∧
        t.core.eng = .final ∧ t.core.errcode = 0 ∧ t.core.alg = alg ∧ t.core.h = hashState alg m ∧
        t.core.len.toNat = m.length ∧ t.core.abs = t.core.len

/-- R27, R28, R247: fed fewer bytes than declared, the engine stays in its run, with the full blocks compressed and the
rest waiting in `BUF`. -/
def Obligations.ShortRunStaysOpen : Prop :=
  ∀ (alg : Alg) (m : List Byte) (c : CoreState), m.length < c.len.toNat →
    (pushAll m (startEffect alg c)).eng = .absorb ∧
    (pushAll m (startEffect alg c)).abs.toNat = m.length ∧
    (pushAll m (startEffect alg c)).fill.toNat = m.length % alg.blockSize ∧
    (pushAll m (startEffect alg c)).h = compressBlocks alg m (m.length / alg.blockSize) (iv alg) ∧
    ∀ k < m.length % alg.blockSize,
      byteAt (pushAll m (startEffect alg c)).buf k =
        listByte m (m.length / alg.blockSize * alg.blockSize + k)

/-- R372, R376: raw use: with `LEN`, the tail and the state of the full blocks as R376 asks, `PAD r` gives the hash of
the message: for a SHA-256 length of `2^61` bytes or more, the one with R120's truncated length field
(notes/assumptions/14.md). -/
def Obligations.RawPadHashesMessage : Prop :=
  ∀ (alg : Alg) (m : List Byte) (r : Byte) (s : State),
    s.core.eng ≠ .absorb → RawPadDuty alg m r.toNat s.core →
      ∃ t : State, exec (.pad r) s = .next t ∧ t.core.h = hashState alg m ∧ t.core.eng = .final

/-- R211, R213, R214: a pad request takes the machine of sub-states from `P_IDLE` to `P_MARK`; within three transitions
more it is back in `P_IDLE`, its request served, with the result of `pad(r)`, after exactly one or exactly two
compressions; and there it waits. -/
def Obligations.PaddingMachineRefinesPad : Prop :=
  ∀ (c : CoreState) (r : Nat), r < c.alg.blockSize →
    padPhaseRun c.alg c.len 1 (padRequest r c) = ⟨.mark r, none, c.h, c.buf, 0⟩ ∧
    ∀ n, 4 ≤ n →
      padPhaseRun c.alg c.len n (padRequest r c) =
        ⟨.idle, none, (pad r c).h, (pad r c).buf,
          if r ≤ (match c.alg with | .md5 => 55 | .sha256 => 55 | .sha512 => 111) then 1 else 2⟩

/-- R214, R215: the padded message fills whole blocks, `floor(L / bs)` and one or two more. -/
def Obligations.PaddedMessageFillsBlocks : Prop :=
  ∀ (alg : Alg) (m : List Byte),
    (paddedMessage alg m).length =
      alg.blockSize * (m.length / alg.blockSize +
        (if m.length % alg.blockSize ≤ (match alg with | .md5 => 55 | .sha256 => 55 | .sha512 => 111) then 1 else 2))

/-! ### Primitives and compression functions -/

/-- R112, R113, R114: the rotations and the shift as operations on naturals. -/
def Obligations.RotationsAsNaturals : Prop :=
  ∀ (w : Nat) (x : BitVec w) (n : Nat), n < w →
    (rotl x n).toNat = (if n = 0 then x.toNat else (x.toNat <<< n ||| x.toNat >>> (w - n)) % 2 ^ w) ∧
    (rotr x n).toNat = (if n = 0 then x.toNat else (x.toNat >>> n ||| x.toNat <<< (w - n)) % 2 ^ w) ∧
    (shr x n).toNat = x.toNat / 2 ^ n

/-- R115 to R118: each expansion gives back the bytes a word was packed from, and packs to the word. -/
def Obligations.PackingInvertsExpansion : Prop :=
  (∀ (x : Nat → Byte) (j : Nat),
    bytesLe (packLe32 x j) = [x (4 * j), x (4 * j + 1), x (4 * j + 2), x (4 * j + 3)] ∧
    bytesBe (packBe32 x j) = [x (4 * j), x (4 * j + 1), x (4 * j + 2), x (4 * j + 3)] ∧
    bytesBe (packBe64 x j) = [x (8 * j), x (8 * j + 1), x (8 * j + 2), x (8 * j + 3),
      x (8 * j + 4), x (8 * j + 5), x (8 * j + 6), x (8 * j + 7)]) ∧
  (∀ v : Word32, packLe32 (listByte (bytesLe v)) 0 = v ∧ packBe32 (listByte (bytesBe v)) 0 = v) ∧
  (∀ v : Word64, packBe64 (listByte (bytesBe v)) 0 = v)

/-- R120: the length field holds the bit count in its byte order: mod `2^64` in 8 bytes for MD5 and SHA-256, whole in 16
bytes for SHA-512. -/
def Obligations.LengthFieldHoldsBitCount : Prop :=
  ∀ len : Word64,
    (lenField .md5 len).length = 8 ∧ leValue (lenField .md5 len) = 8 * len.toNat % 2 ^ 64 ∧
    (lenField .sha256 len).length = 8 ∧ beValue (lenField .sha256 len) = 8 * len.toNat % 2 ^ 64 ∧
    (lenField .sha512 len).length = 16 ∧ beValue (lenField .sha512 len) = 8 * len.toNat

/-- R142, R143, R144, R146: one MD5 round, quarter by quarter, with the formulas written out. -/
def Obligations.Md5RoundByQuarter : Prop :=
  ∀ (m : List Word32) (v : Md5Vars) (i : Nat), i < 64 →
    md5Round m v i =
      { a := v.d
        b := v.b + rotl
          (v.a
            + (if i < 16 then (v.b &&& v.c) ||| (~~~v.b &&& v.d)
              else if i < 32 then (v.b &&& v.d) ||| (v.c &&& ~~~v.d)
              else if i < 48 then v.b ^^^ v.c ^^^ v.d
              else v.c ^^^ (v.b ||| ~~~v.d))
            + md5Table.getD i 0
            + m.getD (if i < 16 then i
              else if i < 32 then (5 * i + 1) % 16
              else if i < 48 then (3 * i + 5) % 16
              else 7 * i % 16) 0)
          ((if i < 16 then [7, 12, 17, 22]
            else if i < 32 then [5, 9, 14, 20]
            else if i < 48 then [4, 11, 16, 23]
            else [6, 10, 15, 21]).getD (i % 4) 0)
        c := v.b
        d := v.c }

/-- R141, R146, R147, R148: `md5_compress` is the 64 rounds in order on the sixteen little-endian words of the block,
and then the final addition; `H[4..7]` and the upper halves become 0. -/
def Obligations.Md5CompressRunsSixtyFourRounds : Prop :=
  ∀ (h : HFile) (buf : Buf), ∃ (m : List Word32) (v : Nat → Md5Vars),
    m.length = 16 ∧ (∀ j < 16, m.getD j 0 = packLe32 (byteAt buf) j) ∧
    v 0 = ⟨hLow h 0, hLow h 1, hLow h 2, hLow h 3⟩ ∧ (∀ i < 64, v (i + 1) = md5Round m (v i) i) ∧
    md5Compress h buf =
      #v[(hLow h 0 + (v 64).a).setWidth 64, (hLow h 1 + (v 64).b).setWidth 64, (hLow h 2 + (v 64).c).setWidth 64,
        (hLow h 3 + (v 64).d).setWidth 64, 0, 0, 0, 0]

/-- R174, R175: the message schedules: the sixteen big-endian words of the block, then the recurrence, with the sigma
functions written out. -/
def Obligations.ShaSchedulesFollowRecurrence : Prop :=
  ∀ buf : Buf,
    (schedule256 buf).length = 64 ∧
    (∀ j < 16, (schedule256 buf).getD j 0 = packBe32 (byteAt buf) j) ∧
    (∀ i, 16 ≤ i → i < 64 → ∀ x y : Word32,
      x = (schedule256 buf).getD (i - 15) 0 → y = (schedule256 buf).getD (i - 2) 0 →
      (schedule256 buf).getD i 0 =
        (schedule256 buf).getD (i - 16) 0 + (rotr x 7 ^^^ rotr x 18 ^^^ shr x 3)
          + (schedule256 buf).getD (i - 7) 0 + (rotr y 17 ^^^ rotr y 19 ^^^ shr y 10)) ∧
    (schedule512 buf).length = 80 ∧
    (∀ j < 16, (schedule512 buf).getD j 0 = packBe64 (byteAt buf) j) ∧
    (∀ i, 16 ≤ i → i < 80 → ∀ x y : Word64,
      x = (schedule512 buf).getD (i - 15) 0 → y = (schedule512 buf).getD (i - 2) 0 →
      (schedule512 buf).getD i 0 =
        (schedule512 buf).getD (i - 16) 0 + (rotr x 1 ^^^ rotr x 8 ^^^ shr x 7)
          + (schedule512 buf).getD (i - 7) 0 + (rotr y 19 ^^^ rotr y 61 ^^^ shr y 6))

/-- R176, R177, R178, R179: `sha256_compress` is the 64 rounds in order, with the round functions written out, and then
the final addition, zero-extended. -/
def Obligations.Sha256CompressRunsSixtyFourRounds : Prop :=
  ∀ (h : HFile) (buf : Buf), ∃ v : Nat → ShaVars 32,
    v 0 = ⟨hLow h 0, hLow h 1, hLow h 2, hLow h 3, hLow h 4, hLow h 5, hLow h 6, hLow h 7⟩ ∧
    (∀ i < 64, ∃ t1 t2 : Word32,
      t1 = (v i).h + (rotr (v i).e 6 ^^^ rotr (v i).e 11 ^^^ rotr (v i).e 25)
        + (((v i).e &&& (v i).f) ^^^ (~~~(v i).e &&& (v i).g)) + k256.getD i 0 + (schedule256 buf).getD i 0 ∧
      t2 = (rotr (v i).a 2 ^^^ rotr (v i).a 13 ^^^ rotr (v i).a 22)
        + (((v i).a &&& (v i).b) ^^^ ((v i).a &&& (v i).c) ^^^ ((v i).b &&& (v i).c)) ∧
      v (i + 1) = ⟨t1 + t2, (v i).a, (v i).b, (v i).c, (v i).d + t1, (v i).e, (v i).f, (v i).g⟩) ∧
    sha256Compress h buf =
      #v[(hLow h 0 + (v 64).a).setWidth 64, (hLow h 1 + (v 64).b).setWidth 64, (hLow h 2 + (v 64).c).setWidth 64,
        (hLow h 3 + (v 64).d).setWidth 64, (hLow h 4 + (v 64).e).setWidth 64, (hLow h 5 + (v 64).f).setWidth 64,
        (hLow h 6 + (v 64).g).setWidth 64, (hLow h 7 + (v 64).h).setWidth 64]

/-- R176, R177, R178, R180: `sha512_compress`, the same with 80 rounds on 64-bit words. -/
def Obligations.Sha512CompressRunsEightyRounds : Prop :=
  ∀ (h : HFile) (buf : Buf), ∃ v : Nat → ShaVars 64,
    v 0 = ⟨hReg h 0, hReg h 1, hReg h 2, hReg h 3, hReg h 4, hReg h 5, hReg h 6, hReg h 7⟩ ∧
    (∀ i < 80, ∃ t1 t2 : Word64,
      t1 = (v i).h + (rotr (v i).e 14 ^^^ rotr (v i).e 18 ^^^ rotr (v i).e 41)
        + (((v i).e &&& (v i).f) ^^^ (~~~(v i).e &&& (v i).g)) + k512.getD i 0 + (schedule512 buf).getD i 0 ∧
      t2 = (rotr (v i).a 28 ^^^ rotr (v i).a 34 ^^^ rotr (v i).a 39)
        + (((v i).a &&& (v i).b) ^^^ ((v i).a &&& (v i).c) ^^^ ((v i).b &&& (v i).c)) ∧
      v (i + 1) = ⟨t1 + t2, (v i).a, (v i).b, (v i).c, (v i).d + t1, (v i).e, (v i).f, (v i).g⟩) ∧
    sha512Compress h buf =
      #v[hReg h 0 + (v 80).a, hReg h 1 + (v 80).b, hReg h 2 + (v 80).c, hReg h 3 + (v 80).d,
        hReg h 4 + (v 80).e, hReg h 5 + (v 80).f, hReg h 6 + (v 80).g, hReg h 7 + (v 80).h]

/-- R170 to R173: the SHA constants are what their names say: the first bits of the fractional parts of the cube roots
of the first 64 or 80 primes, and of the square roots of the first 8. -/
def Obligations.ShaConstantsAreRootsOfPrimes : Prop :=
  k256.length = 64 ∧ k512.length = 80 ∧
  (∀ i < 64, ∃ x, x ^ 3 ≤ (primesBelow 410).getD i 0 * 2 ^ 96 ∧ (primesBelow 410).getD i 0 * 2 ^ 96 < (x + 1) ^ 3 ∧
    (k256.getD i 0).toNat = x % 2 ^ 32) ∧
  (∀ i < 80, ∃ x, x ^ 3 ≤ (primesBelow 410).getD i 0 * 2 ^ 192 ∧ (primesBelow 410).getD i 0 * 2 ^ 192 < (x + 1) ^ 3 ∧
    (k512.getD i 0).toNat = x % 2 ^ 64) ∧
  (∀ i < 8, ∃ x, x ^ 2 ≤ (primesBelow 410).getD i 0 * 2 ^ 64 ∧ (primesBelow 410).getD i 0 * 2 ^ 64 < (x + 1) ^ 2 ∧
    (hReg iv256 i).toNat = x % 2 ^ 32) ∧
  (∀ i < 8, ∃ x, x ^ 2 ≤ (primesBelow 410).getD i 0 * 2 ^ 128 ∧ (primesBelow 410).getD i 0 * 2 ^ 128 < (x + 1) ^ 2 ∧
    (hReg iv512 i).toNat = x % 2 ^ 64)

/-- R22, R141, R148, R174, R179: what a 32-bit compression can depend on, and that what it writes is zero-extended, as
are the initial values. -/
def Obligations.CompressionReadsOnlyItsBlockAndWords : Prop :=
  (∀ (h h' : HFile) (buf buf' : Buf), (∀ k < 64, byteAt buf k = byteAt buf' k) →
    ((∀ i < 4, hLow h i = hLow h' i) → md5Compress h buf = md5Compress h' buf') ∧
    ((∀ i < 8, hLow h i = hLow h' i) → sha256Compress h buf = sha256Compress h' buf')) ∧
  (∀ (alg : Alg) (h : HFile) (buf : Buf), CanonicalH alg (compress alg h buf) ∧ CanonicalH alg (iv alg))
end

