-- ==== Sys2Proof/Laws/State.lean ====
section
/-! SUPPORT. What each named update of the core leaves in each field. Later proofs cite these lemmas and unfold no
record update. -/

namespace Sys2Proof.Machine

variable (c : CoreState)

/-! ### compressCore -/

@[simp] theorem compressCore_h : (compressCore c).h = compress c.alg c.h c.buf := rfl
@[simp] theorem compressCore_buf : (compressCore c).buf = c.buf := rfl
@[simp] theorem compressCore_len : (compressCore c).len = c.len := rfl
@[simp] theorem compressCore_alg : (compressCore c).alg = c.alg := rfl
@[simp] theorem compressCore_eng : (compressCore c).eng = c.eng := rfl
@[simp] theorem compressCore_fill : (compressCore c).fill = c.fill := rfl
@[simp] theorem compressCore_abs : (compressCore c).abs = c.abs := rfl
@[simp] theorem compressCore_errcode : (compressCore c).errcode = c.errcode := rfl
@[simp] theorem compressCore_busy : (compressCore c).busy = c.busy := rfl
@[simp] theorem compressCore_hexbuf : (compressCore c).hexbuf = c.hexbuf := rfl
@[simp] theorem compressCore_hexlen : (compressCore c).hexlen = c.hexlen := rfl

/-! ### nopEffect -/

@[simp] theorem nopEffect_h : (nopEffect c).h = c.h := rfl
@[simp] theorem nopEffect_buf : (nopEffect c).buf = c.buf := rfl
@[simp] theorem nopEffect_len : (nopEffect c).len = c.len := rfl
@[simp] theorem nopEffect_alg : (nopEffect c).alg = c.alg := rfl
@[simp] theorem nopEffect_eng : (nopEffect c).eng = c.eng := rfl
@[simp] theorem nopEffect_fill : (nopEffect c).fill = c.fill := rfl
@[simp] theorem nopEffect_abs : (nopEffect c).abs = c.abs := rfl
@[simp] theorem nopEffect_errcode : (nopEffect c).errcode = c.errcode := rfl
@[simp] theorem nopEffect_busy : (nopEffect c).busy = c.busy := rfl
@[simp] theorem nopEffect_hexbuf : (nopEffect c).hexbuf = c.hexbuf := rfl
@[simp] theorem nopEffect_hexlen : (nopEffect c).hexlen = c.hexlen := rfl

/-! ### initEffect -/

@[simp] theorem initEffect_h (a : Alg) : (initEffect a c).h = iv a := rfl
@[simp] theorem initEffect_buf (a : Alg) : (initEffect a c).buf = c.buf := rfl
@[simp] theorem initEffect_len (a : Alg) : (initEffect a c).len = c.len := rfl
@[simp] theorem initEffect_alg (a : Alg) : (initEffect a c).alg = a := rfl
@[simp] theorem initEffect_eng (a : Alg) : (initEffect a c).eng = .idle := rfl
@[simp] theorem initEffect_fill (a : Alg) : (initEffect a c).fill = 0 := rfl
@[simp] theorem initEffect_abs (a : Alg) : (initEffect a c).abs = 0 := rfl
@[simp] theorem initEffect_errcode (a : Alg) : (initEffect a c).errcode = c.errcode := rfl
@[simp] theorem initEffect_busy (a : Alg) : (initEffect a c).busy = c.busy := rfl
@[simp] theorem initEffect_hexbuf (a : Alg) : (initEffect a c).hexbuf = c.hexbuf := rfl
@[simp] theorem initEffect_hexlen (a : Alg) : (initEffect a c).hexlen = c.hexlen := rfl

/-! ### compressEffect -/

@[simp] theorem compressEffect_h : (compressEffect c).h = compress c.alg c.h c.buf := rfl
@[simp] theorem compressEffect_buf : (compressEffect c).buf = c.buf := rfl
@[simp] theorem compressEffect_len : (compressEffect c).len = c.len := rfl
@[simp] theorem compressEffect_alg : (compressEffect c).alg = c.alg := rfl
@[simp] theorem compressEffect_eng : (compressEffect c).eng = .idle := rfl
@[simp] theorem compressEffect_fill : (compressEffect c).fill = c.fill := rfl
@[simp] theorem compressEffect_abs : (compressEffect c).abs = c.abs := rfl
@[simp] theorem compressEffect_errcode : (compressEffect c).errcode = c.errcode := rfl
@[simp] theorem compressEffect_busy : (compressEffect c).busy = c.busy := rfl
@[simp] theorem compressEffect_hexbuf : (compressEffect c).hexbuf = c.hexbuf := rfl
@[simp] theorem compressEffect_hexlen : (compressEffect c).hexlen = c.hexlen := rfl

/-! ### beginRun -/

@[simp] theorem beginRun_h (a : Alg) : (beginRun a c).h = iv a := rfl
@[simp] theorem beginRun_buf (a : Alg) : (beginRun a c).buf = c.buf := rfl
@[simp] theorem beginRun_len (a : Alg) : (beginRun a c).len = c.len := rfl
@[simp] theorem beginRun_alg (a : Alg) : (beginRun a c).alg = a := rfl
@[simp] theorem beginRun_eng (a : Alg) : (beginRun a c).eng = .absorb := rfl
@[simp] theorem beginRun_fill (a : Alg) : (beginRun a c).fill = 0 := rfl
@[simp] theorem beginRun_abs (a : Alg) : (beginRun a c).abs = 0 := rfl
@[simp] theorem beginRun_errcode (a : Alg) : (beginRun a c).errcode = c.errcode := rfl
@[simp] theorem beginRun_busy (a : Alg) : (beginRun a c).busy = c.busy := rfl
@[simp] theorem beginRun_hexbuf (a : Alg) : (beginRun a c).hexbuf = c.hexbuf := rfl
@[simp] theorem beginRun_hexlen (a : Alg) : (beginRun a c).hexlen = c.hexlen := rfl

/-! ### absorbByte -/

@[simp] theorem absorbByte_h (b : Byte) : (absorbByte b c).h = c.h := rfl
@[simp] theorem absorbByte_buf (b : Byte) : (absorbByte b c).buf = setByte c.buf c.fill.toNat b := rfl
@[simp] theorem absorbByte_len (b : Byte) : (absorbByte b c).len = c.len := rfl
@[simp] theorem absorbByte_alg (b : Byte) : (absorbByte b c).alg = c.alg := rfl
@[simp] theorem absorbByte_eng (b : Byte) : (absorbByte b c).eng = c.eng := rfl
@[simp] theorem absorbByte_fill (b : Byte) : (absorbByte b c).fill = c.fill + 1 := rfl
@[simp] theorem absorbByte_abs (b : Byte) : (absorbByte b c).abs = c.abs + 1 := rfl
@[simp] theorem absorbByte_errcode (b : Byte) : (absorbByte b c).errcode = c.errcode := rfl
@[simp] theorem absorbByte_busy (b : Byte) : (absorbByte b c).busy = c.busy := rfl
@[simp] theorem absorbByte_hexbuf (b : Byte) : (absorbByte b c).hexbuf = c.hexbuf := rfl
@[simp] theorem absorbByte_hexlen (b : Byte) : (absorbByte b c).hexlen = c.hexlen := rfl

/-! ### hexCommon -/

@[simp] theorem hexCommon_h (out : List Byte) : (hexCommon out c).h = c.h := by
  simp [hexCommon]
@[simp] theorem hexCommon_buf (out : List Byte) : (hexCommon out c).buf = c.buf := by
  simp [hexCommon]
@[simp] theorem hexCommon_len (out : List Byte) : (hexCommon out c).len = c.len := by
  simp [hexCommon]
@[simp] theorem hexCommon_alg (out : List Byte) : (hexCommon out c).alg = c.alg := by
  simp [hexCommon]
@[simp] theorem hexCommon_eng (out : List Byte) : (hexCommon out c).eng = c.eng := by
  simp [hexCommon]
@[simp] theorem hexCommon_fill (out : List Byte) : (hexCommon out c).fill = c.fill := by
  simp [hexCommon]
@[simp] theorem hexCommon_abs (out : List Byte) : (hexCommon out c).abs = c.abs := by
  simp [hexCommon]
@[simp] theorem hexCommon_errcode (out : List Byte) : (hexCommon out c).errcode = c.errcode := by
  simp [hexCommon]
@[simp] theorem hexCommon_busy (out : List Byte) : (hexCommon out c).busy = c.busy := by
  simp [hexCommon]
@[simp] theorem hexCommon_hexbuf (out : List Byte) : (hexCommon out c).hexbuf = Vector.ofFn fun k => listByte out k.val := by
  simp [hexCommon]
@[simp] theorem hexCommon_hexlen (out : List Byte) : (hexCommon out c).hexlen = BitVec.ofNat 9 out.length := by
  simp [hexCommon]

/-! ### setLenHalf -/

@[simp] theorem setLenHalf_h (half : Half) (d : Word32) : (setLenHalf half d c).h = c.h := rfl
@[simp] theorem setLenHalf_buf (half : Half) (d : Word32) : (setLenHalf half d c).buf = c.buf := rfl
@[simp] theorem setLenHalf_len (half : Half) (d : Word32) : (setLenHalf half d c).len = writeHalf c.len half d := rfl
@[simp] theorem setLenHalf_alg (half : Half) (d : Word32) : (setLenHalf half d c).alg = c.alg := rfl
@[simp] theorem setLenHalf_eng (half : Half) (d : Word32) : (setLenHalf half d c).eng = c.eng := rfl
@[simp] theorem setLenHalf_fill (half : Half) (d : Word32) : (setLenHalf half d c).fill = c.fill := rfl
@[simp] theorem setLenHalf_abs (half : Half) (d : Word32) : (setLenHalf half d c).abs = c.abs := rfl
@[simp] theorem setLenHalf_errcode (half : Half) (d : Word32) : (setLenHalf half d c).errcode = c.errcode := rfl
@[simp] theorem setLenHalf_busy (half : Half) (d : Word32) : (setLenHalf half d c).busy = c.busy := rfl
@[simp] theorem setLenHalf_hexbuf (half : Half) (d : Word32) : (setLenHalf half d c).hexbuf = c.hexbuf := rfl
@[simp] theorem setLenHalf_hexlen (half : Half) (d : Word32) : (setLenHalf half d c).hexlen = c.hexlen := rfl

/-! ### setHHalf -/

@[simp] theorem setHHalf_h (i : Fin 8) (half : Half) (d : Word32) : (setHHalf i half d c).h = c.h.set i.val (writeHalf c.h[i] half d) := rfl
@[simp] theorem setHHalf_buf (i : Fin 8) (half : Half) (d : Word32) : (setHHalf i half d c).buf = c.buf := rfl
@[simp] theorem setHHalf_len (i : Fin 8) (half : Half) (d : Word32) : (setHHalf i half d c).len = c.len := rfl
@[simp] theorem setHHalf_alg (i : Fin 8) (half : Half) (d : Word32) : (setHHalf i half d c).alg = c.alg := rfl
@[simp] theorem setHHalf_eng (i : Fin 8) (half : Half) (d : Word32) : (setHHalf i half d c).eng = c.eng := rfl
@[simp] theorem setHHalf_fill (i : Fin 8) (half : Half) (d : Word32) : (setHHalf i half d c).fill = c.fill := rfl
@[simp] theorem setHHalf_abs (i : Fin 8) (half : Half) (d : Word32) : (setHHalf i half d c).abs = c.abs := rfl
@[simp] theorem setHHalf_errcode (i : Fin 8) (half : Half) (d : Word32) : (setHHalf i half d c).errcode = c.errcode := rfl
@[simp] theorem setHHalf_busy (i : Fin 8) (half : Half) (d : Word32) : (setHHalf i half d c).busy = c.busy := rfl
@[simp] theorem setHHalf_hexbuf (i : Fin 8) (half : Half) (d : Word32) : (setHHalf i half d c).hexbuf = c.hexbuf := rfl
@[simp] theorem setHHalf_hexlen (i : Fin 8) (half : Half) (d : Word32) : (setHHalf i half d c).hexlen = c.hexlen := rfl

/-! ### setBufWord -/

@[simp] theorem setBufWord_h (k : Fin 32) (d : Word32) : (setBufWord k d c).h = c.h := by
  simp [setBufWord]
@[simp] theorem setBufWord_buf (k : Fin 32) (d : Word32) : (setBufWord k d c).buf = writeBytes c.buf (4 * k.val) (lanesOf d) := by
  simp [setBufWord]
@[simp] theorem setBufWord_len (k : Fin 32) (d : Word32) : (setBufWord k d c).len = c.len := by
  simp [setBufWord]
@[simp] theorem setBufWord_alg (k : Fin 32) (d : Word32) : (setBufWord k d c).alg = c.alg := by
  simp [setBufWord]
@[simp] theorem setBufWord_eng (k : Fin 32) (d : Word32) : (setBufWord k d c).eng = c.eng := by
  simp [setBufWord]
@[simp] theorem setBufWord_fill (k : Fin 32) (d : Word32) : (setBufWord k d c).fill = c.fill := by
  simp [setBufWord]
@[simp] theorem setBufWord_abs (k : Fin 32) (d : Word32) : (setBufWord k d c).abs = c.abs := by
  simp [setBufWord]
@[simp] theorem setBufWord_errcode (k : Fin 32) (d : Word32) : (setBufWord k d c).errcode = c.errcode := by
  simp [setBufWord]
@[simp] theorem setBufWord_busy (k : Fin 32) (d : Word32) : (setBufWord k d c).busy = c.busy := by
  simp [setBufWord]
@[simp] theorem setBufWord_hexbuf (k : Fin 32) (d : Word32) : (setBufWord k d c).hexbuf = c.hexbuf := by
  simp [setBufWord]
@[simp] theorem setBufWord_hexlen (k : Fin 32) (d : Word32) : (setBufWord k d c).hexlen = c.hexlen := by
  simp [setBufWord]

/-! ### pad -/

@[simp] theorem pad_len (r : Nat) : (pad r c).len = c.len := by
  unfold pad; split <;> rfl
@[simp] theorem pad_alg (r : Nat) : (pad r c).alg = c.alg := by
  unfold pad; split <;> rfl
@[simp] theorem pad_eng (r : Nat) : (pad r c).eng = c.eng := by
  unfold pad; split <;> rfl
@[simp] theorem pad_fill (r : Nat) : (pad r c).fill = c.fill := by
  unfold pad; split <;> rfl
@[simp] theorem pad_abs (r : Nat) : (pad r c).abs = c.abs := by
  unfold pad; split <;> rfl
@[simp] theorem pad_errcode (r : Nat) : (pad r c).errcode = c.errcode := by
  unfold pad; split <;> rfl
@[simp] theorem pad_busy (r : Nat) : (pad r c).busy = c.busy := by
  unfold pad; split <;> rfl
@[simp] theorem pad_hexbuf (r : Nat) : (pad r c).hexbuf = c.hexbuf := by
  unfold pad; split <;> rfl
@[simp] theorem pad_hexlen (r : Nat) : (pad r c).hexlen = c.hexlen := by
  unfold pad; split <;> rfl

/-! ### padEffect -/

@[simp] theorem padEffect_len (r : Byte) : (padEffect r c).len = c.len := by
  simp [padEffect]
@[simp] theorem padEffect_alg (r : Byte) : (padEffect r c).alg = c.alg := by
  simp [padEffect]
@[simp] theorem padEffect_fill (r : Byte) : (padEffect r c).fill = c.fill := by
  simp [padEffect]
@[simp] theorem padEffect_abs (r : Byte) : (padEffect r c).abs = c.abs := by
  simp [padEffect]
@[simp] theorem padEffect_errcode (r : Byte) : (padEffect r c).errcode = c.errcode := by
  simp [padEffect]
@[simp] theorem padEffect_busy (r : Byte) : (padEffect r c).busy = c.busy := by
  simp [padEffect]
@[simp] theorem padEffect_hexbuf (r : Byte) : (padEffect r c).hexbuf = c.hexbuf := by
  simp [padEffect]
@[simp] theorem padEffect_hexlen (r : Byte) : (padEffect r c).hexlen = c.hexlen := by
  simp [padEffect]
@[simp] theorem padEffect_eng (r : Byte) : (padEffect r c).eng = .final := rfl
@[simp] theorem padEffect_h (r : Byte) : (padEffect r c).h = (pad r.toNat c).h := rfl
@[simp] theorem padEffect_buf (r : Byte) : (padEffect r c).buf = (pad r.toNat c).buf := rfl

/-! ### endRun -/

@[simp] theorem endRun_len (r : Nat) : (endRun r c).len = c.len := by
  simp [endRun]
@[simp] theorem endRun_alg (r : Nat) : (endRun r c).alg = c.alg := by
  simp [endRun]
@[simp] theorem endRun_fill (r : Nat) : (endRun r c).fill = c.fill := by
  simp [endRun]
@[simp] theorem endRun_abs (r : Nat) : (endRun r c).abs = c.abs := by
  simp [endRun]
@[simp] theorem endRun_errcode (r : Nat) : (endRun r c).errcode = c.errcode := by
  simp [endRun]
@[simp] theorem endRun_busy (r : Nat) : (endRun r c).busy = c.busy := by
  simp [endRun]
@[simp] theorem endRun_hexbuf (r : Nat) : (endRun r c).hexbuf = c.hexbuf := by
  simp [endRun]
@[simp] theorem endRun_hexlen (r : Nat) : (endRun r c).hexlen = c.hexlen := by
  simp [endRun]
@[simp] theorem endRun_eng (r : Nat) : (endRun r c).eng = .final := rfl
@[simp] theorem endRun_h (r : Nat) : (endRun r c).h = (pad r c).h := rfl
@[simp] theorem endRun_buf (r : Nat) : (endRun r c).buf = (pad r c).buf := rfl

/-! ### startEffect -/

@[simp] theorem startEffect_len (a : Alg) : (startEffect a c).len = c.len := by
  unfold startEffect; split <;> simp
@[simp] theorem startEffect_errcode (a : Alg) : (startEffect a c).errcode = c.errcode := by
  unfold startEffect; split <;> simp
@[simp] theorem startEffect_busy (a : Alg) : (startEffect a c).busy = c.busy := by
  unfold startEffect; split <;> simp
@[simp] theorem startEffect_hexbuf (a : Alg) : (startEffect a c).hexbuf = c.hexbuf := by
  unfold startEffect; split <;> simp
@[simp] theorem startEffect_hexlen (a : Alg) : (startEffect a c).hexlen = c.hexlen := by
  unfold startEffect; split <;> simp
@[simp] theorem startEffect_alg (a : Alg) : (startEffect a c).alg = a := by
  unfold startEffect; split <;> simp
@[simp] theorem startEffect_fill (a : Alg) : (startEffect a c).fill = 0 := by
  unfold startEffect; split <;> simp
@[simp] theorem startEffect_abs (a : Alg) : (startEffect a c).abs = 0 := by
  unfold startEffect; split <;> simp

/-! ### flushBlock -/

@[simp] theorem flushBlock_buf : (flushBlock c).buf = c.buf := by
  unfold flushBlock; split <;> rfl
@[simp] theorem flushBlock_len : (flushBlock c).len = c.len := by
  unfold flushBlock; split <;> rfl
@[simp] theorem flushBlock_alg : (flushBlock c).alg = c.alg := by
  unfold flushBlock; split <;> rfl
@[simp] theorem flushBlock_eng : (flushBlock c).eng = c.eng := by
  unfold flushBlock; split <;> rfl
@[simp] theorem flushBlock_abs : (flushBlock c).abs = c.abs := by
  unfold flushBlock; split <;> rfl
@[simp] theorem flushBlock_errcode : (flushBlock c).errcode = c.errcode := by
  unfold flushBlock; split <;> rfl
@[simp] theorem flushBlock_busy : (flushBlock c).busy = c.busy := by
  unfold flushBlock; split <;> rfl
@[simp] theorem flushBlock_hexbuf : (flushBlock c).hexbuf = c.hexbuf := by
  unfold flushBlock; split <;> rfl
@[simp] theorem flushBlock_hexlen : (flushBlock c).hexlen = c.hexlen := by
  unfold flushBlock; split <;> rfl

/-! ### checkEnd -/

@[simp] theorem checkEnd_len : (checkEnd c).len = c.len := by
  unfold checkEnd; split <;> simp
@[simp] theorem checkEnd_alg : (checkEnd c).alg = c.alg := by
  unfold checkEnd; split <;> simp
@[simp] theorem checkEnd_fill : (checkEnd c).fill = c.fill := by
  unfold checkEnd; split <;> simp
@[simp] theorem checkEnd_abs : (checkEnd c).abs = c.abs := by
  unfold checkEnd; split <;> simp
@[simp] theorem checkEnd_errcode : (checkEnd c).errcode = c.errcode := by
  unfold checkEnd; split <;> simp
@[simp] theorem checkEnd_busy : (checkEnd c).busy = c.busy := by
  unfold checkEnd; split <;> simp
@[simp] theorem checkEnd_hexbuf : (checkEnd c).hexbuf = c.hexbuf := by
  unfold checkEnd; split <;> simp
@[simp] theorem checkEnd_hexlen : (checkEnd c).hexlen = c.hexlen := by
  unfold checkEnd; split <;> simp

/-! ### push -/

@[simp] theorem push_len (b : Byte) : (push b c).len = c.len := by
  unfold push; split <;> simp
@[simp] theorem push_alg (b : Byte) : (push b c).alg = c.alg := by
  unfold push; split <;> simp
@[simp] theorem push_errcode (b : Byte) : (push b c).errcode = c.errcode := by
  unfold push; split <;> simp
@[simp] theorem push_busy (b : Byte) : (push b c).busy = c.busy := by
  unfold push; split <;> simp
@[simp] theorem push_hexbuf (b : Byte) : (push b c).hexbuf = c.hexbuf := by
  unfold push; split <;> simp
@[simp] theorem push_hexlen (b : Byte) : (push b c).hexlen = c.hexlen := by
  unfold push; split <;> simp

@[simp] theorem pushAll_len (bytes : List Byte) : (pushAll bytes c).len = c.len := by
  induction bytes generalizing c with
  | nil => rfl
  | cons b bs ih => exact (ih (push b c)).trans (push_len c b)
@[simp] theorem pushAll_alg (bytes : List Byte) : (pushAll bytes c).alg = c.alg := by
  induction bytes generalizing c with
  | nil => rfl
  | cons b bs ih => exact (ih (push b c)).trans (push_alg c b)
@[simp] theorem pushAll_errcode (bytes : List Byte) : (pushAll bytes c).errcode = c.errcode := by
  induction bytes generalizing c with
  | nil => rfl
  | cons b bs ih => exact (ih (push b c)).trans (push_errcode c b)
@[simp] theorem pushAll_busy (bytes : List Byte) : (pushAll bytes c).busy = c.busy := by
  induction bytes generalizing c with
  | nil => rfl
  | cons b bs ih => exact (ih (push b c)).trans (push_busy c b)
@[simp] theorem pushAll_hexbuf (bytes : List Byte) : (pushAll bytes c).hexbuf = c.hexbuf := by
  induction bytes generalizing c with
  | nil => rfl
  | cons b bs ih => exact (ih (push b c)).trans (push_hexbuf c b)
@[simp] theorem pushAll_hexlen (bytes : List Byte) : (pushAll bytes c).hexlen = c.hexlen := by
  induction bytes generalizing c with
  | nil => rfl
  | cons b bs ih => exact (ih (push b c)).trans (push_hexlen c b)
/-! ### hexDigestEffect -/

@[simp] theorem hexDigestEffect_h (d : Bool) : (hexDigestEffect d c).h = c.h := by
  simp [hexDigestEffect]
@[simp] theorem hexDigestEffect_buf (d : Bool) : (hexDigestEffect d c).buf = c.buf := by
  simp [hexDigestEffect]
@[simp] theorem hexDigestEffect_len (d : Bool) : (hexDigestEffect d c).len = c.len := by
  simp [hexDigestEffect]
@[simp] theorem hexDigestEffect_alg (d : Bool) : (hexDigestEffect d c).alg = c.alg := by
  simp [hexDigestEffect]
@[simp] theorem hexDigestEffect_eng (d : Bool) : (hexDigestEffect d c).eng = c.eng := by
  simp [hexDigestEffect]
@[simp] theorem hexDigestEffect_fill (d : Bool) : (hexDigestEffect d c).fill = c.fill := by
  simp [hexDigestEffect]
@[simp] theorem hexDigestEffect_abs (d : Bool) : (hexDigestEffect d c).abs = c.abs := by
  simp [hexDigestEffect]
@[simp] theorem hexDigestEffect_errcode (d : Bool) : (hexDigestEffect d c).errcode = c.errcode := by
  simp [hexDigestEffect]
@[simp] theorem hexDigestEffect_busy (d : Bool) : (hexDigestEffect d c).busy = c.busy := by
  simp [hexDigestEffect]

/-! ### hexLeEffect -/

@[simp] theorem hexLeEffect_h (d : Bool) : (hexLeEffect d c).h = c.h := by
  simp [hexLeEffect]
@[simp] theorem hexLeEffect_buf (d : Bool) : (hexLeEffect d c).buf = c.buf := by
  simp [hexLeEffect]
@[simp] theorem hexLeEffect_len (d : Bool) : (hexLeEffect d c).len = c.len := by
  simp [hexLeEffect]
@[simp] theorem hexLeEffect_alg (d : Bool) : (hexLeEffect d c).alg = c.alg := by
  simp [hexLeEffect]
@[simp] theorem hexLeEffect_eng (d : Bool) : (hexLeEffect d c).eng = c.eng := by
  simp [hexLeEffect]
@[simp] theorem hexLeEffect_fill (d : Bool) : (hexLeEffect d c).fill = c.fill := by
  simp [hexLeEffect]
@[simp] theorem hexLeEffect_abs (d : Bool) : (hexLeEffect d c).abs = c.abs := by
  simp [hexLeEffect]
@[simp] theorem hexLeEffect_errcode (d : Bool) : (hexLeEffect d c).errcode = c.errcode := by
  simp [hexLeEffect]
@[simp] theorem hexLeEffect_busy (d : Bool) : (hexLeEffect d c).busy = c.busy := by
  simp [hexLeEffect]

/-! ### hexBeEffect -/

@[simp] theorem hexBeEffect_h (d : Bool) : (hexBeEffect d c).h = c.h := by
  simp [hexBeEffect]
@[simp] theorem hexBeEffect_buf (d : Bool) : (hexBeEffect d c).buf = c.buf := by
  simp [hexBeEffect]
@[simp] theorem hexBeEffect_len (d : Bool) : (hexBeEffect d c).len = c.len := by
  simp [hexBeEffect]
@[simp] theorem hexBeEffect_alg (d : Bool) : (hexBeEffect d c).alg = c.alg := by
  simp [hexBeEffect]
@[simp] theorem hexBeEffect_eng (d : Bool) : (hexBeEffect d c).eng = c.eng := by
  simp [hexBeEffect]
@[simp] theorem hexBeEffect_fill (d : Bool) : (hexBeEffect d c).fill = c.fill := by
  simp [hexBeEffect]
@[simp] theorem hexBeEffect_abs (d : Bool) : (hexBeEffect d c).abs = c.abs := by
  simp [hexBeEffect]
@[simp] theorem hexBeEffect_errcode (d : Bool) : (hexBeEffect d c).errcode = c.errcode := by
  simp [hexBeEffect]
@[simp] theorem hexBeEffect_busy (d : Bool) : (hexBeEffect d c).busy = c.busy := by
  simp [hexBeEffect]

/-! ### hexBufEffect -/

@[simp] theorem hexBufEffect_h (n : Byte) (d : Bool) : (hexBufEffect n d c).h = c.h := by
  simp [hexBufEffect]
@[simp] theorem hexBufEffect_buf (n : Byte) (d : Bool) : (hexBufEffect n d c).buf = c.buf := by
  simp [hexBufEffect]
@[simp] theorem hexBufEffect_len (n : Byte) (d : Bool) : (hexBufEffect n d c).len = c.len := by
  simp [hexBufEffect]
@[simp] theorem hexBufEffect_alg (n : Byte) (d : Bool) : (hexBufEffect n d c).alg = c.alg := by
  simp [hexBufEffect]
@[simp] theorem hexBufEffect_eng (n : Byte) (d : Bool) : (hexBufEffect n d c).eng = c.eng := by
  simp [hexBufEffect]
@[simp] theorem hexBufEffect_fill (n : Byte) (d : Bool) : (hexBufEffect n d c).fill = c.fill := by
  simp [hexBufEffect]
@[simp] theorem hexBufEffect_abs (n : Byte) (d : Bool) : (hexBufEffect n d c).abs = c.abs := by
  simp [hexBufEffect]
@[simp] theorem hexBufEffect_errcode (n : Byte) (d : Bool) : (hexBufEffect n d c).errcode = c.errcode := by
  simp [hexBufEffect]
@[simp] theorem hexBufEffect_busy (n : Byte) (d : Bool) : (hexBufEffect n d c).busy = c.busy := by
  simp [hexBufEffect]


end Sys2Proof.Machine
end

