-- ==== Sys2Proof/Laws/Bytes.lean ====
section
/-! SUPPORT. The byte arrays: what a read of one byte gives after each write of the model, that two arrays with the same
bytes are equal, and the halves of a 64-bit register. `BUF` and `HEXBUF` are vectors of fixed length, so equal contents
are equal data and every write keeps that form by its type. -/

namespace Sys2Proof.Machine

variable {n : Nat}

theorem byteAt_of_lt (x : Vector Byte n) {k : Nat} (hk : k < n) : byteAt x k = x[k] := by
  simp [byteAt, hk]

theorem byteAt_of_ge (x : Vector Byte n) {k : Nat} (hk : n ≤ k) : byteAt x k = 0 := by
  simp [byteAt, hk]

theorem byteAt_ofFn (f : Fin n → Byte) {k : Nat} (hk : k < n) : byteAt (Vector.ofFn f) k = f ⟨k, hk⟩ := by
  simp [byteAt_of_lt _ hk]

theorem buf_ext {x y : Vector Byte n} (hxy : ∀ k < n, byteAt x k = byteAt y k) : x = y := by
  refine Vector.ext fun k hk => ?_
  rw [← byteAt_of_lt x hk, ← byteAt_of_lt y hk, hxy k hk]

theorem byteAt_setByte (x : Vector Byte n) (i : Nat) (b : Byte) {k : Nat} (hk : k < n) :
    byteAt (setByte x i b) k = if k = i then b else byteAt x k := by
  simp only [byteAt_of_lt _ hk, setByte, Vector.getElem_setIfInBounds hk, eq_comm (a := i)]

theorem byteAt_fillBytes (x : Vector Byte n) (lo hi : Nat) (b : Byte) {k : Nat} (hk : k < n) :
    byteAt (fillBytes x lo hi b) k = if lo ≤ k ∧ k < hi then b else byteAt x k :=
  byteAt_ofFn _ hk

theorem byteAt_writeBytes (x : Vector Byte n) (start : Nat) (l : List Byte) {k : Nat} (hk : k < n) :
    byteAt (writeBytes x start l) k =
      if start ≤ k ∧ k < start + l.length then listByte l (k - start) else byteAt x k :=
  byteAt_ofFn _ hk

theorem byteAt_hexCommon (out : List Byte) (c : CoreState) {k : Nat} (hk : k < 384) :
    byteAt (hexCommon out c).hexbuf k = listByte out k :=
  byteAt_ofFn _ hk

theorem listByte_of_lt (l : List Byte) {k : Nat} (hk : k < l.length) : listByte l k = l[k] := by
  simp [listByte, hk]

theorem listByte_of_ge (l : List Byte) {k : Nat} (hk : l.length ≤ k) : listByte l k = 0 := by
  simp [listByte, Nat.not_lt.mpr hk]

@[simp] theorem length_lanesOf (d : Word32) : (lanesOf d).length = 4 := rfl

@[simp] theorem length_bytesLe {w : Nat} (v : BitVec w) : (bytesLe v).length = w / 8 := by simp [bytesLe]

@[simp] theorem length_bytesBe {w : Nat} (v : BitVec w) : (bytesBe v).length = w / 8 := by simp [bytesBe]

@[simp] theorem length_lenField (alg : Alg) (len : Word64) : (lenField alg len).length = alg.lenFieldBytes := by
  cases alg <;> simp [lenField, Alg.lenFieldBytes]

theorem hReg_of_lt (h : HFile) {i : Nat} (hi : i < 8) : hReg h i = h[i] := by
  simp [hReg, hi]

end Sys2Proof.Machine
end

