-- ==== Sys2Proof/Laws/Ops.lean ====
section
/-! SUPPORT. One lemma for each shared way an operation ends: what it says when it answers a next state. -/

namespace Sys2Proof.Machine

theorem answer_next {s t : State} {c : CoreState} {r : Response} :
    answer s c r = .next t ↔ t = { s with core := c, response := r } := by
  simp [answer, eq_comm]

theorem finishWrite_next {s t : State} {c : CoreState} :
    finishWrite s c = .next t ↔ t = { s with core := c, response := .written } :=
  answer_next

theorem finishRead_next {s t : State} {v : Word32} :
    finishRead s v = .next t ↔ t = { s with response := .value v } :=
  answer_next

theorem busFault_next {s t : State} {e : BusError} :
    busFault s e = .next t ↔ t = { s with response := .busError e } :=
  answer_next

theorem reject_next {s t : State} {e : CmdError} :
    reject s e = .next t ↔ t = { s with core := { s.core with errcode := errCode e }, response := .written } :=
  answer_next

theorem accept_next {s t : State} {f : CoreState → CoreState} :
    accept s f = .next t ↔ t = { s with core := f { s.core with errcode := 0 }, response := .written } :=
  answer_next

/-- Everything a storage write can do: nothing during a run, its effect otherwise. -/
theorem storageWrite_next {s t : State} {f : CoreState → CoreState} :
    storageWrite s f = .next t ↔
      (s.core.eng = .absorb ∧ t = { s with response := .written }) ∨
      (s.core.eng ≠ .absorb ∧ t = { s with core := f s.core, response := .written }) := by
  unfold storageWrite
  split <;> simp_all [finishWrite_next]

/-- Everything an absorb step can do: it drops the byte, or it counts it in and then flushes and ends as it must. -/
theorem push_cases (b : Byte) (c : CoreState) :
    (c.eng ≠ .absorb ∧ push b c = c) ∨ (c.eng = .absorb ∧ push b c = checkEnd (flushBlock (absorbByte b c))) := by
  unfold push
  split <;> simp_all

theorem push_of_not_absorb {b : Byte} {c : CoreState} (hc : c.eng ≠ .absorb) : push b c = c := by
  simp [push, hc]

theorem pushAll_of_not_absorb {c : CoreState} (hc : c.eng ≠ .absorb) (bytes : List Byte) : pushAll bytes c = c := by
  induction bytes with
  | nil => rfl
  | cons b bs ih => simpa [pushAll, push_of_not_absorb hc] using ih

theorem pushAll_append (xs ys : List Byte) (c : CoreState) : pushAll (xs ++ ys) c = pushAll ys (pushAll xs c) := by
  simp [pushAll]

/-- Everything a padding can do: one block, or two. -/
theorem pad_cases (r : Nat) (c : CoreState) :
    (r ≤ c.alg.threshold ∧ pad r c = compressCore { c with buf := oneBlock c.alg c.len r c.buf }) ∨
    (c.alg.threshold < r ∧ pad r c =
      compressCore { compressCore { c with buf := firstBlock c.alg r c.buf } with
        buf := secondBlock c.alg c.len (firstBlock c.alg r c.buf) }) := by
  unfold pad
  split
  · exact .inl ⟨‹_›, rfl⟩
  · exact .inr ⟨Nat.lt_of_not_le ‹_›, rfl⟩

/-! ### The padding machine (R213): each row of its table, and that without a request it waits -/

section PaddingMachine

variable (alg : Alg) (len : Word64) (q : Option Nat) (r n : Nat) (h : HFile) (b : Buf)

@[simp] theorem padPhaseStep_waits : padPhaseStep alg len ⟨.idle, none, h, b, n⟩ = ⟨.idle, none, h, b, n⟩ := rfl

@[simp] theorem padPhaseStep_takes_request :
    padPhaseStep alg len ⟨.idle, some r, h, b, n⟩ = ⟨.mark r, none, h, b, n⟩ := rfl

@[simp] theorem padPhaseStep_mark :
    padPhaseStep alg len ⟨.mark r, q, h, b, n⟩ =
      ⟨if r ≤ alg.threshold then .one r else .first r, q, h, setByte b r 0x80, n⟩ := rfl

theorem padPhaseRun_add (m : Nat) (p : PadWork) :
    padPhaseRun alg len (m + n) p = padPhaseRun alg len n (padPhaseRun alg len m p) := by
  induction m generalizing p with
  | zero => simp [padPhaseRun]
  | succ m ih => simpa [Nat.succ_add, padPhaseRun] using ih (padPhaseStep alg len p)

theorem padPhaseRun_waits (k : Nat) :
    padPhaseRun alg len k ⟨.idle, none, h, b, n⟩ = ⟨.idle, none, h, b, n⟩ := by
  induction k with
  | zero => rfl
  | succ k ih => simpa [padPhaseRun] using ih

end PaddingMachine

@[simp] theorem Alg.ofCode_code (a : Alg) : Alg.ofCode a.code = some a := by
  cases a <;> rfl

end Sys2Proof.Machine
end

