-- ==== Sys2Proof/Laws/Codec.lean ====
section
/-! SUPPORT. The register map read back from the offsets. -/

namespace Sys2Proof

theorem Reg.offset_aligned (r : Reg) : r.offset % 4 = 0 := by
  cases r <;> simp only [Reg.offset]
  case len half => cases half <;> simp [halfOffset]
  case abs half => cases half <;> simp [halfOffset]
  case h i half => cases half <;> simp only [halfOffset] <;> omega
  all_goals omega

theorem Reg.offset_lt (r : Reg) : r.offset < 0x400 := by
  cases r <;> simp only [Reg.offset]
  case len half => cases half <;> simp [halfOffset]
  case abs half => cases half <;> simp [halfOffset]
  case h i half => cases half <;> simp only [halfOffset] <;> omega
  all_goals omega

/-- R52 has one register at each of its offsets. -/
theorem regAt_offset (r : Reg) : regAt r.offset = some r := by
  cases r with
  | cmd => decide
  | status => decide
  | len half => cases half <;> decide
  | data8 => decide
  | data32 => decide
  | abs half => cases half <;> decide
  | fill => decide
  | hexlen => decide
  | dlen => decide
  | h i half => revert i; cases half <;> decide
  | bufw k => revert k; decide
  | digestw k => revert k; decide
  | hexw k => revert k; decide +kernel

/-- A 32-bit access of a register's own offset reaches the register. -/
theorem target_offset (r : Reg) : target 32 r.offset = .ok r := by
  simp [target, Nat.not_le.mpr r.offset_lt, r.offset_aligned, regAt_offset]

end Sys2Proof
end

