-- ==== Sys2Proof/Laws/PerInstr.lean ====
section
/-! SUPPORT. Lemmas for each operation: the family `EncodedForm`, that an encoding is a 32-bit access of a register's
own offset, or a command word whose reserved bits are 0 (spec/30_encoding.md R81, spec/20_memory.md R51). -/

namespace Sys2Proof.Laws.EncodedForm

/-- The form: an aligned 32-bit access inside the window, or a command word with `cmd[31:24]` and `cmd[15:9]` 0. -/
def formed : HostOp → Bool
  | .command cmd => cmd &&& 0xFF00FE00 == 0
  | .access (.read width offset) => width == 32 && offset % 4 == 0 && decide (offset < 0x400)
  | .access (.write width offset _) => width == 32 && offset % 4 == 0 && decide (offset < 0x400)

/-- The encoding of the operation has the form. -/
def Statement (i : Instr) : Prop := formed (encode i) = true

theorem of_read {i : Instr} {r : Reg} (h : encode i = readOf r) : Statement i := by
  simp [Statement, formed, h, readOf, r.offset_aligned, r.offset_lt]

theorem of_write {i : Instr} {r : Reg} {d : Word32} (h : encode i = writeOf r d) : Statement i := by
  simp [Statement, formed, h, writeOf, r.offset_aligned, r.offset_lt]

theorem init_formed : ∀ a : BitVec 2, formed (encode (.init a)) = true := by decide
theorem start_formed : ∀ a : BitVec 2, formed (encode (.start a)) = true := by decide
theorem pad_formed : ∀ r : Byte, formed (encode (.pad r)) = true := by decide +kernel
theorem hexBuf_formed : ∀ (n : Byte) (d : Bool), formed (encode (.hexBuf n d)) = true := by decide +kernel

theorem nop : Statement .nop := rfl
theorem init (alg : BitVec 2) : Statement (.init alg) := init_formed alg
theorem compress : Statement .compress := rfl
theorem pad (r : Byte) : Statement (.pad r) := pad_formed r
theorem start (alg : BitVec 2) : Statement (.start alg) := start_formed alg
theorem hexDigest (delim : Bool) : Statement (.hexDigest delim) := by cases delim <;> rfl
theorem hexLe (delim : Bool) : Statement (.hexLe delim) := by cases delim <;> rfl
theorem hexBe (delim : Bool) : Statement (.hexBe delim) := by cases delim <;> rfl
theorem hexBuf (n : Byte) (delim : Bool) : Statement (.hexBuf n delim) := hexBuf_formed n delim
theorem wrCmd (data : Word32) : Statement (.wrCmd data) := of_write rfl
theorem wrLen (half : Half) (data : Word32) : Statement (.wrLen half data) := of_write rfl
theorem wrData8 (data : Word32) : Statement (.wrData8 data) := of_write rfl
theorem wrData32 (data : Word32) : Statement (.wrData32 data) := of_write rfl
theorem wrH (i : Fin 8) (half : Half) (data : Word32) : Statement (.wrH i half data) := of_write rfl
theorem wrBufw (k : Fin 32) (data : Word32) : Statement (.wrBufw k data) := of_write rfl
theorem rdStatus : Statement .rdStatus := of_read rfl
theorem rdLen (half : Half) : Statement (.rdLen half) := of_read rfl
theorem rdAbs (half : Half) : Statement (.rdAbs half) := of_read rfl
theorem rdFill : Statement .rdFill := of_read rfl
theorem rdHexlen : Statement .rdHexlen := of_read rfl
theorem rdDlen : Statement .rdDlen := of_read rfl
theorem rdH (i : Fin 8) (half : Half) : Statement (.rdH i half) := of_read rfl
theorem rdBufw (k : Fin 32) : Statement (.rdBufw k) := of_read rfl
theorem rdDigestw (k : Fin 16) : Statement (.rdDigestw k) := of_read rfl
theorem rdHexw (k : Fin 96) : Statement (.rdHexw k) := of_read rfl
theorem rdHexwHigh (k : Fin 96) : Statement (.rdHexwHigh k) := of_read rfl

end Sys2Proof.Laws.EncodedForm
end

