-- ==== Sys2Proof/Tests/Slice0.lean ====
section
/-! SUPPORT. Tests of one operation each, their values taken from the spec's rules and from spec/95_test_vectors.md, and
for each statement with hypotheses a concrete state and operands that meet them. -/

namespace Sys2Proof.Tests

open Sys2Proof.Machine

-- One theorem at a time: the kernel's evaluations below would otherwise each hold a thread.
set_option Elab.async false

/-! ### Helpers -/

/-- The core an operation leaves. -/
def coreOf : Result → CoreState
  | .next t => t.core
  | .fault _ => CoreState.reset
  | .refused _ => CoreState.reset

/-- What an operation answers. -/
def answerOf : Result → Response
  | .next t => t.response
  | .fault _ => .quiet
  | .refused _ => .quiet

/-- The machine around a core, the host having issued these moves. -/
def machine (c : CoreState) (moves : List HostMove) : State := ⟨c, moves, .quiet⟩

/-- `STATUS` after an operation. -/
def statusAfter (i : Instr) (c : CoreState) : Word32 := statusWord (coreOf (exec i (machine c [])))

/-- The first characters of `HEXBUF` after an operation. -/
def textAfter (i : Instr) (c : CoreState) (n : Nat) : List Nat :=
  (List.range n).map fun k => (byteAt (coreOf (exec i (machine c []))).hexbuf k).toNat

/-- A core after reset but for its algorithm, engine state and length. -/
def coreWith (alg : Alg) (eng : Eng) (len : Word64) : CoreState :=
  { CoreState.reset with alg := alg, eng := eng, len := len }

/-- The message "abc" in `BUF`, its length in `LEN`. -/
def abcLoaded (alg : Alg) : CoreState :=
  { coreWith alg .idle 3 with h := iv alg, buf := writeBytes CoreState.reset.buf 0 [0x61, 0x62, 0x63] }

/-- The state after the MD5 run of "abc" (spec/41_md5.md R148). -/
def md5Abc : CoreState :=
  { coreWith .md5 .final 3 with h := #v[0x98500190, 0xb04fd23c, 0x7d3f96d6, 0x727fe128, 0, 0, 0, 0] }

/-- The state after the SHA-256 run of "abc" (spec/42_sha.md R179). -/
def sha256Abc : CoreState :=
  { coreWith .sha256 .final 3 with
    h := #v[0xba7816bf, 0x8f01cfea, 0x414140de, 0x5dae2223, 0xb00361a3, 0x96177a9c, 0xb410ff61, 0xf20015ad] }

/-- A run of five bytes under an algorithm, begun from reset. -/
def running (alg : Alg) : CoreState := { coreWith alg .absorb 5 with h := iv alg }

/-! ### Well-formedness: each check refuses an ill-formed term -/

theorem test_wellFormed_refuses_rdHexw_64 : ¬ WellFormed (.rdHexw 64) := by decide
theorem test_wellFormed_refuses_rdHexwHigh_63 : ¬ WellFormed (.rdHexwHigh 63) := by decide
theorem test_wellFormed_accepts_boundaries : WellFormed (.rdHexw 63) ∧ WellFormed (.rdHexwHigh 64) := by decide

/-! ### Decoding, against words written out from R84 and offsets from R52 -/

theorem test_decode_nop : decodeCommand 0b00000000000000000000000000000000#32 = .ok .nop := by decide
theorem test_decode_init : decodeCommand 0b00000000000000000000000000100001#32 = .ok (.init 2) := by decide
theorem test_decode_compress : decodeCommand 0b00000000000000000000000000000010#32 = .ok .compress := by decide
theorem test_decode_pad : decodeCommand 0b00000000111111110000000000000011#32 = .ok (.pad 255) := by decide
theorem test_decode_start : decodeCommand 0b00000000000000000000000000010100#32 = .ok (.start 1) := by decide
theorem test_decode_hexDigest : decodeCommand 0b00000000000000000000000100000101#32 = .ok (.hexDigest true) := by decide
theorem test_decode_hexLe : decodeCommand 0b00000000000000000000000001000101#32 = .ok (.hexLe false) := by decide
theorem test_decode_hexBe : decodeCommand 0b00000000000000000000000110000101#32 = .ok (.hexBe true) := by decide
theorem test_decode_hexBuf : decodeCommand 0b00000000100000000000000111000101#32 = .ok (.hexBuf 128 true) := by decide
theorem test_decode_wrCmd : decodeAccess (.write 32 0x000 6) = .ok (.wrCmd 6) := by decide
theorem test_decode_wrLen : decodeAccess (.write 32 0x00C 1) = .ok (.wrLen .hi 1) := by decide
theorem test_decode_wrData8 : decodeAccess (.write 32 0x010 0x162) = .ok (.wrData8 0x162) := by decide
theorem test_decode_wrData32 : decodeAccess (.write 32 0x014 1) = .ok (.wrData32 1) := by decide
theorem test_decode_wrH : decodeAccess (.write 32 0x0BC 1) = .ok (.wrH 7 .hi 1) := by decide
theorem test_decode_wrBufw : decodeAccess (.write 32 0x17C 1) = .ok (.wrBufw 31 1) := by decide
theorem test_decode_rdStatus : decodeAccess (.read 32 0x004) = .ok .rdStatus := by decide
theorem test_decode_rdLen : decodeAccess (.read 32 0x008) = .ok (.rdLen .lo) := by decide
theorem test_decode_rdAbs : decodeAccess (.read 32 0x01C) = .ok (.rdAbs .hi) := by decide
theorem test_decode_rdFill : decodeAccess (.read 32 0x020) = .ok .rdFill := by decide
theorem test_decode_rdHexlen : decodeAccess (.read 32 0x024) = .ok .rdHexlen := by decide
theorem test_decode_rdDlen : decodeAccess (.read 32 0x028) = .ok .rdDlen := by decide
theorem test_decode_rdH : decodeAccess (.read 32 0x080) = .ok (.rdH 0 .lo) := by decide
theorem test_decode_rdBufw : decodeAccess (.read 32 0x100) = .ok (.rdBufw 0) := by decide
theorem test_decode_rdDigestw : decodeAccess (.read 32 0x190) = .ok (.rdDigestw 4) := by decide
theorem test_decode_rdHexw : decodeAccess (.read 32 0x200) = .ok (.rdHexw 0) := by decide
theorem test_decode_rdHexwHigh : decodeAccess (.read 32 0x300) = .ok (.rdHexwHigh 64) := by decide

/-- R86, spec/95_test_vectors.md L2-R: words that fit no form. -/
theorem test_decode_refusals :
    [0x0000000F, 0xFFFFFFF6, 0x00000100, 0x80000000, 0x00000131, 0x00000041, 0x00000012, 0x00400013, 0x00010045,
      0x00000015, 0x00000205].map (fun w : Word32 => decodeCommand w) =
    [.error .illegalOp, .error .illegalOp, .error .reservedBits, .error .reservedBits, .error .reservedBits,
      .error .reservedBits, .error .reservedBits, .error .reservedBits, .error .reservedBits, .error .reservedBits,
      .error .reservedBits] := by decide +kernel

/-- spec/95_test_vectors.md L2-B: the bus errors and their order. -/
theorem test_decode_bus_errors :
    decodeAccess (.read 16 0x004) = .error (.bus .width) ∧ decodeAccess (.read 16 0x006) = .error (.bus .width) ∧
    decodeAccess (.read 32 0x02E) = .error (.bus .misaligned) ∧ decodeAccess (.read 32 0x07C) = .error (.bus .unmapped) ∧
    decodeAccess (.read 32 0x014) = .error (.bus .writeOnly) ∧
    decodeAccess (.write 32 0x200 0) = .error (.bus .readOnly) := by decide

/-- R5: the table of parameters. -/
theorem test_parameters :
    ([Alg.md5, .sha256, .sha512].map fun a =>
      [a.wordBits, a.stateWords, a.blockSize, a.rounds, a.lenFieldBytes, a.threshold, a.digestBytes, a.maxLen]) =
    [[32, 4, 64, 64, 8, 55, 16, 2 ^ 64 - 1], [32, 8, 64, 64, 8, 55, 32, 2 ^ 61 - 1],
      [64, 8, 128, 80, 16, 111, 64, 2 ^ 64 - 1]] := by decide

/-- R89: `PUSH` of five bytes, and `LOADBUF` of three. -/
theorem test_pseudo_operations :
    pushOps [0x61, 0x62, 0x63, 0x64, 0x65] =
      [.access (.write 32 0x014 0x64636261), .access (.write 32 0x010 0x65)] ∧
    loadBufOps [0x61, 0x62, 0x63] = [.access (.write 32 0x100 0x00636261)] := by decide +kernel

/-! ### Primitives and compression functions (spec/95_test_vectors.md L2-P, L2-M, L2-S) -/

theorem test_rotations :
    rotl (0x12345678 : Word32) 4 = 0x23456781 ∧ rotl (0x12345678 : Word32) 31 = 0x091A2B3C ∧
    rotr (0x0123456789ABCDEF : Word64) 8 = 0xEF0123456789ABCD ∧ shr (0x80000000 : Word32) 3 = 0x10000000 := by
  decide

theorem test_packing :
    packLe32 (listByte [0x61, 0x62, 0x63, 0x80]) 0 = 0x80636261 ∧
    packBe32 (listByte [0x61, 0x62, 0x63, 0x80]) 0 = 0x61626380 ∧
    packBe64 (listByte [0x61, 0x62, 0x63, 0x80]) 0 = 0x6162638000000000 ∧
    bytesLe (0x98500190 : Word32) = [0x90, 0x01, 0x50, 0x98] ∧
    bytesBe (0xBA7816BF : Word32) = [0xBA, 0x78, 0x16, 0xBF] := by decide +kernel

theorem test_sigmas :
    smallSigma0of256 0x12345678 = 0xE7FCE6EE ∧ smallSigma1of256 0x12345678 = 0xA1F78649 ∧
    smallSigma0of512 0x0123456789ABCDEF = 0x6F92C77C6C4F1AA1 ∧
    smallSigma1of512 0x0123456789ABCDEF = 0x70A3460DBBD4317A ∧
    bigSigma0of256 0x12345678 = 0x66146474 ∧ bigSigma1of256 0x12345678 = 0x3561ABDA ∧
    bigSigma0of512 0x0123456789ABCDEF = 0xB7C57A100C7EC1AB ∧
    bigSigma1of512 0x0123456789ABCDEF = 0x7703112333475567 := by decide +kernel

theorem test_mixing_functions :
    (List.range 4).map (fun q => md5Mix q 0x12345678 0x9ABCDEF0 0x0FEDCBA9) =
      [0x1FFDDFF1, 0x92345678, 0x87654321, 0x688AA88E] ∧
    ch (0x12345678 : Word32) 0x9ABCDEF0 0x0FEDCBA9 = 0x1FFDDFF1 ∧
    maj (0x12345678 : Word32) 0x9ABCDEF0 0x0FEDCBA9 = 0x1ABCDEF8 := by decide +kernel

theorem test_length_fields :
    lenField .md5 56 = [0xc0, 0x01, 0, 0, 0, 0, 0, 0] ∧
    lenField .sha256 0x1FFFFFFFFFFFFFFF = [0xff, 0xff, 0xff, 0xff, 0xff, 0xff, 0xff, 0xf8] ∧
    lenField .sha512 0xFFFFFFFFFFFFFFFF =
      [0, 0, 0, 0, 0, 0, 0, 7, 0xff, 0xff, 0xff, 0xff, 0xff, 0xff, 0xff, 0xf8] := by decide +kernel

theorem test_md5_zero_block :
    (List.range 4).map (hLow (md5Compress CoreState.reset.h CoreState.reset.buf)) =
      [0xf7cd1c97, 0xa5483681, 0x2b68d832, 0xf90ca639] := by decide +kernel

theorem test_sha256_zero_block :
    (List.range 8).map (hLow (sha256Compress CoreState.reset.h CoreState.reset.buf)) =
      [0x7ca51614, 0x425c3ba8, 0xce54dd2f, 0xc2020ae7, 0xb6e574d1, 0x98136d0f, 0xae7e26cc, 0xbf0be7a6] := by
  decide +kernel

theorem test_sha512_zero_block :
    (List.range 8).map (hReg (sha512Compress CoreState.reset.h CoreState.reset.buf)) =
      [0xad3a5da838ebf830, 0x5d7142ff85fcbedb, 0x7fa8bf86d6f7ca99, 0x1c6b15b039d70bbf,
        0x29f6515289923518, 0x6fd7101d5f2e8f3a, 0x1c358d2476531450, 0x568c0d99d756dc3c] := by decide +kernel

/-! ### Operations (spec/95_test_vectors.md L2-C, L2-D, L2-E, L2-X, L2-R, L3) -/

theorem test_nop_clears_errcode : statusAfter .nop { CoreState.reset with errcode := 1 } = 0 := by decide +kernel

theorem test_init_sha512 :
    statusAfter (.init 2) CoreState.reset = 0x20 ∧
    hReg (coreOf (exec (.init 2) State.reset)).h 0 = 0x6a09e667f3bcc908 := by decide +kernel

theorem test_init_abandons_run : statusAfter (.init 0) (running .sha256) = 0 := by decide +kernel

theorem test_compress_after_init :
    (List.range 4).map (hLow (coreOf (exec .compress (machine { CoreState.reset with h := ivMd5 } []))).h) =
      [0x031f1dac, 0x6ea58ed0, 0x1fab67b7, 0x74317791] := by decide +kernel

theorem test_compress_leaves_final : statusAfter .compress md5Abc = 0 := by decide +kernel

theorem test_pad_md5_abc :
    (List.range 4).map (hLow (coreOf (exec (.pad 3) (machine (abcLoaded .md5) []))).h) =
      [0x98500190, 0xb04fd23c, 0x7d3f96d6, 0x727fe128] ∧
    statusAfter (.pad 3) (abcLoaded .md5) = 4 := by decide +kernel

theorem test_pad_sha512_abc :
    hReg (coreOf (exec (.pad 3) (machine (abcLoaded .sha512) []))).h 7 = 0x2a9ac94fa54ca49f := by decide +kernel

theorem test_start_empty_message :
    serialize .md5 (coreOf (exec (.start 0) State.reset)).h =
      [0xd4, 0x1d, 0x8c, 0xd9, 0x8f, 0x00, 0xb2, 0x04, 0xe9, 0x80, 0x09, 0x98, 0xec, 0xf8, 0x42, 0x7e] := by
  decide +kernel

theorem test_start_restarts_run : statusAfter (.start 2) (running .md5) = 0x22 := by decide +kernel

/-- "90:0" -/
theorem test_hexDigest_delim :
    textAfter (.hexDigest true) md5Abc 4 = [0x39, 0x30, 0x3a, 0x30] ∧
    (coreOf (exec (.hexDigest true) (machine md5Abc []))).hexlen = 47 := by decide +kernel

/-- "bf1678baea" -/
theorem test_hexLe_sha256 :
    textAfter (.hexLe false) sha256Abc 10 = [0x62, 0x66, 0x31, 0x36, 0x37, 0x38, 0x62, 0x61, 0x65, 0x61] := by
  decide +kernel

/-- "98500190b0" -/
theorem test_hexBe_md5 :
    textAfter (.hexBe false) md5Abc 10 = [0x39, 0x38, 0x35, 0x30, 0x30, 0x31, 0x39, 0x30, 0x62, 0x30] := by
  decide +kernel

/-- "00:ab:0f", and zeros after it -/
theorem test_hexBuf_delim :
    textAfter (.hexBuf 3 true)
      { CoreState.reset with buf := writeBytes CoreState.reset.buf 0 [0x00, 0xab, 0x0f] } 9 =
      [0x30, 0x30, 0x3a, 0x61, 0x62, 0x3a, 0x30, 0x66, 0] := by decide +kernel

theorem test_hexBuf_longest :
    (coreOf (exec (.hexBuf 128 true) State.reset)).hexlen = 383 := by decide +kernel

/-- R213: the rows a request for a tail of 56 bytes takes the machine through, from `P_IDLE` back to it. -/
theorem test_padding_machine_rows :
    (List.range 6).map (fun n => (padPhaseRun .md5 56 n (padRequest 56 (abcLoaded .md5))).phase) =
      [.idle, .mark 56, .first 56, .second, .idle, .idle] := by decide +kernel

/-- L2-R: each code, and the order of simultaneous causes. -/
theorem test_wrCmd_codes_idle :
    [0x00000000, 0x0000000F, 0x00000131, 0x00000031, 0x00400003, 0x008100C5, 0x008001C5].map
      (fun w => statusAfter (.wrCmd w) (coreWith .md5 .idle 5)) =
    [0x000, 0x100, 0x200, 0x300, 0x400, 0x400, 0x000] := by decide +kernel

theorem test_wrCmd_codes_absorb :
    [0x00000002, 0x00000012, 0x00FF0003, 0x00000003, 0x00000034, 0x00000024, 0x00000005].map
      (fun w => statusAfter (.wrCmd w) (coreWith .md5 .absorb 5)) =
    [0x502, 0x202, 0x402, 0x502, 0x302, 0x022, 0x002] := by decide +kernel

theorem test_wrLen_hi :
    (coreOf (exec (.wrLen .hi 1) State.reset)).len = 0x100000000 := by decide +kernel

theorem test_wrLen_ignored_in_run :
    (coreOf (exec (.wrLen .lo 100) (machine (running .md5) []))).len = 5 := by decide +kernel

/-- R243: SHA-256 of "a". -/
theorem test_wrData8_ends_run :
    statusAfter (.wrData8 0x61) { running .sha256 with len := 1 } = 0x14 ∧
    hLow (coreOf (exec (.wrData8 0x61) (machine { running .sha256 with len := 1 } []))).h 0 = 0xca978112 := by
  decide +kernel

/-- R244: MD5 of "abc", the lane `FF` dropped. -/
theorem test_wrData32_drops_lane :
    hLow (coreOf (exec (.wrData32 0xFF636261) (machine { running .md5 with len := 3 } []))).h 0 = 0x98500190 ∧
    (coreOf (exec (.wrData32 0xFF636261) (machine { running .md5 with len := 3 } []))).abs = 3 := by decide +kernel

/-- R244: a word that completes a block goes on at `BUF[0]`. -/
theorem test_wrData32_across_block :
    (coreOf (exec (.wrData32 0x64636261)
      (machine { running .md5 with len := 100, fill := 62, abs := 62 } []))).fill = 2 ∧
    byteAt (coreOf (exec (.wrData32 0x64636261)
      (machine { running .md5 with len := 100, fill := 62, abs := 62 } []))).buf 0 = 0x63 := by decide +kernel

theorem test_wrH_hi :
    hReg (coreOf (exec (.wrH 6 .hi 0x12345678) State.reset)).h 6 = 0x1234567800000000 := by decide +kernel

/-- L2-M: the compression clears the upper half that the host wrote. -/
theorem test_wrH_cleared_by_compress :
    hReg (coreOf (exec .compress (machine (coreOf (exec (.wrH 6 .hi 0x12345678) State.reset)) []))).h 6 = 0 := by
  decide +kernel

theorem test_wrBufw_lanes :
    (List.range 5).map (byteAt (coreOf (exec (.wrBufw 0 0x00636261) State.reset)).buf) = [0x61, 0x62, 0x63, 0, 0] := by
  decide +kernel

theorem test_rdStatus_fields :
    exec .rdStatus (machine { coreWith .sha512 .final 2 with errcode := 5 } []) =
      .next ⟨{ coreWith .sha512 .final 2 with errcode := 5 }, [], .value 0x524⟩ := rfl

theorem test_rdLen_hi :
    answerOf (exec (.rdLen .hi) (machine (coreWith .md5 .idle 0x100000000) [])) = .value 1 := by decide +kernel

theorem test_rdAbs_lo :
    answerOf (exec (.rdAbs .lo) (machine { CoreState.reset with abs := 0x500000003 } [])) = .value 3 := by decide +kernel

theorem test_rdFill : answerOf (exec .rdFill (machine { CoreState.reset with fill := 112 } [])) = .value 112 := by
  decide +kernel

theorem test_rdHexlen :
    answerOf (exec .rdHexlen (machine { CoreState.reset with hexlen := 383 } [])) = .value 0x17F := by decide +kernel

theorem test_rdDlen : answerOf (exec .rdDlen (machine sha256Abc [])) = .value 32 := by decide +kernel

theorem test_rdH_hi :
    answerOf (exec (.rdH 1 .hi) (machine { CoreState.reset with h := iv512 } [])) = .value 0xbb67ae85 := by
  decide +kernel

theorem test_rdBufw_lanes :
    answerOf (exec (.rdBufw 0) (machine (abcLoaded .md5) [])) = .value 0x00636261 := by decide +kernel

/-- L2-C: `DIGESTW(0..1)` under SHA-512, and the bytes from `DLEN` on under MD5. -/
theorem test_rdDigestw :
    answerOf (exec (.rdDigestw 1) (machine { CoreState.reset with alg := .sha512, h := iv512 } [])) =
      .value 0x08c9bcf3 ∧
    answerOf (exec (.rdDigestw 4) (machine md5Abc [])) = .value 0 := by decide +kernel

theorem test_rdHexw :
    answerOf (exec (.rdHexw 0) (machine (coreOf (exec (.hexDigest false) (machine md5Abc []))) [])) =
      .value 0x31303039 := by decide +kernel

/-- L2-X: `BUF` all `ff`, `HEX buf, 128, delim`. -/
theorem test_rdHexwHigh :
    answerOf (exec (.rdHexwHigh 95) (machine (coreOf (exec (.hexBuf 128 true)
      (machine { CoreState.reset with buf := Vector.replicate 128 0xff } []))) [])) = .value 0x0066663A := by
  decide +kernel

/-! ### Steps -/

theorem test_step_reads_after_write :
    (match Host.Core.run Sys2Proof.core 2
        (machine CoreState.reset [.op (.access (.write 32 0x008 7)), .op (.access (.read 32 0x008))]) with
      | .next t => t.response
      | .fault _ => .quiet
      | .refused _ => .quiet) = .value 7 := by decide +kernel

/-- P4, steps 7 and 8: a bus error leaves `ERRCODE` and everything else. -/
theorem test_step_bus_error :
    step (machine { coreWith .sha512 .absorb 2 with errcode := 5 } [.op (.access (.read 32 0x000))]) =
      .next ⟨{ coreWith .sha512 .absorb 2 with errcode := 5 }, [], .busError .writeOnly⟩ := rfl

theorem test_table_word_runs :
    decodeTableWord 32 0x24 = some (.start 2) ∧ decodeTableWord 16 0x300 = some (.rdHexwHigh 64) ∧
    decodeTableWord 16 0x000 = some (.wrCmd 0) ∧ decodeTableWord 32 0x6 = none := by decide +kernel

theorem test_withFetchWord_runs :
    step (State.reset.withFetchWord 32 0x2) = exec .compress State.reset := rfl

/-! ### Witnesses: the hypotheses of each statement are met, at the boundaries of their ranges -/

/-- A run in progress meets the invariant. -/
theorem running_inv : Inv (running .sha512) where
  notBusy := rfl
  fillInBlock := by decide
  errcodeProduced := by decide
  hexlenBound := by decide
  hexbufTail := by decide +kernel
  runUnfinished := by decide
  runFill := by decide
  runH := fun _ => trivial

theorem witness_DecodeInvertsEncode : WellFormed (.rdHexw 63) ∧ WellFormed (.rdHexwHigh 95) := by decide

theorem witness_EncodeInvertsDecode :
    decode (.command 0x007F0003) = .ok (.pad 127) ∧ decode (.access (.read 32 0x37C)) = .ok (.rdHexwHigh 95) := by
  decide

theorem witness_EveryCommandWordHasOneForm :
    decodeCommand 0xFFFFFFF6 = .error .illegalOp ∧ decodeCommand 0x00010005 = .error .reservedBits ∧
    decodeCommand 0x00FF01C5 = .ok (.hexBuf 255 true) := by decide

theorem witness_BusErrorCausesInOrder :
    (0x3FC : Nat) < 0x400 ∧
    [0x02C, 0x07C, 0x0C0, 0x0FC, 0x1C0, 0x1FC, 0x380, 0x3FC].map (fun o => decode (.access (.read 32 o))) =
      List.replicate 8 (.error (.bus .unmapped)) ∧
    [0x004, 0x018, 0x028, 0x180, 0x1BC, 0x200, 0x37C].map (fun o => decode (.access (.write 32 o 0))) =
      List.replicate 7 (.error (.bus .readOnly)) ∧
    [0x000, 0x010, 0x014].map (fun o => decode (.access (.read 32 o))) =
      List.replicate 3 (.error (.bus .writeOnly)) ∧
    decode (.access (.write 64 0x3FF 0)) = .error (.bus .width) ∧
    decode (.access (.write 32 0x3FD 0)) = .error (.bus .misaligned) := by decide +kernel

theorem witness_StepRunsDecodedOperation :
    (machine CoreState.reset [.op (.command 0x11)]).core.busy = 0 ∧ decode (.command 0x11) = .ok (.init 1) := by decide

theorem witness_StepAnswersBusError :
    (machine CoreState.reset [.op (.access (.read 32 0x07C))]).core.busy = 0 ∧
    decode (.access (.read 32 0x07C)) = .error (.bus .unmapped) := by decide

theorem witness_StepOnCommandIsWriteOfCmd : (machine CoreState.reset []).core.busy = 0 := by decide

theorem witness_ResetInputClearsCore :
    (machine { running .md5 with busy := 1 } [.reset]).pending = HostMove.reset :: [] := rfl

theorem witness_StepHoldsOrWaits :
    (machine { running .md5 with busy := 1 } [.op (.command 0)]).core.busy ≠ 0 ∧
    (machine { running .md5 with busy := 1 } [.op (.command 0)]).pending.head? ≠ some .reset ∧
    State.reset.core.busy = 0 ∧ State.reset.pending = [] := by decide

theorem witness_StepStopsOnlyOutsideWindow :
    step (machine CoreState.reset [.op (.access (.read 32 0x400))]) = .fault (.outsideWindow 0x400) ∧
    step (machine CoreState.reset [.op (.access (.read 32 0x3FC))]) =
      .next ⟨CoreState.reset, [], .busError .unmapped⟩ := ⟨rfl, rfl⟩

theorem witness_StepKeepsObservableInvariant :
    Inv (machine (running .sha512) [.op (.access (.write 32 0x010 0x61))]).core ∧
    ∃ t, step (machine (running .sha512) [.op (.access (.write 32 0x010 0x61))]) = .next t :=
  ⟨running_inv, _, rfl⟩

theorem witness_RegistersChangeOnlyByTheirWriters :
    ∃ t, exec (.wrLen .lo 7) State.reset = .next t ∧ t.core.len ≠ State.reset.core.len := ⟨_, rfl, by decide⟩

/-- Under MD5 the last byte of the block is filled, and compressed with what stands in `BUF[64..127]` left alone. -/
theorem witness_UpperBufferWrittenOnlyByWindow :
    Inv (running .sha512) ∧ (∃ t, exec (.start 0) (machine (running .sha512) []) = .next t ∧
      t.core.alg.blockSize = 64) ∧ ∀ (k : Fin 32) (data : Word32), Instr.start 0 ≠ .wrBufw k data :=
  ⟨running_inv, ⟨_, rfl, rfl⟩, fun _ _ h => by cases h⟩

theorem witness_EngineTransitionsAreTheTable :
    (coreOf (exec (.init 0) (machine (running .md5) []))).eng = .idle ∧
    (coreOf (exec .compress (machine md5Abc []))).eng = .idle ∧
    (coreOf (exec (.start 0) (machine (coreWith .md5 .idle 1) []))).eng = .absorb ∧
    (coreOf (exec (.start 0) State.reset)).eng = .final ∧ (coreOf (exec (.pad 0) State.reset)).eng = .final ∧
    (coreOf (exec (.wrData8 0) (machine { running .md5 with len := 1 } []))).eng = .final := by decide +kernel

theorem witness_CmdWriteRecordsFirstCause :
    outcomeCode 0x6 .md5 .idle = 1 ∧ outcomeCode 0x12 .md5 .absorb = 2 ∧ outcomeCode 0x34 .md5 .absorb = 3 ∧
    outcomeCode 0x00400003 .md5 .absorb = 4 ∧ outcomeCode 0x003F0003 .md5 .absorb = 5 ∧
    outcomeCode 0x003F0003 .md5 .idle = 0 ∧ outcomeCode 0x008100C5 .md5 .idle = 4 ∧
    outcomeCode 0x008000C5 .md5 .idle = 0 ∧ outcomeCode 0x2 .md5 .absorb = 5 := by decide

theorem witness_CmdWriteRunsAcceptedCommand :
    decodeCommand 0x007F0003 = .ok (.pad 127) ∧ outcomeCode 0x007F0003 .sha512 .final = 0 := by decide

theorem witness_CompressAppliesSelectedFunction : State.reset.core.eng ≠ .absorb := by decide

theorem witness_PadWithinOneBlock :
    (machine (coreWith .md5 .idle 0) []).core.eng ≠ .absorb ∧ (55#8).toNat ≤ 55 ∧ (111#8).toNat ≤ 111 := by decide

theorem witness_PadOverTwoBlocks :
    (machine (coreWith .sha512 .final 0) []).core.eng ≠ .absorb ∧
    (55 < (56#8).toNat ∧ (63#8).toNat < Alg.sha256.blockSize) ∧
    (111 < (112#8).toNat ∧ (127#8).toNat < Alg.sha512.blockSize) := by decide

theorem witness_RejectedFormsChangeOnlyErrcode :
    (running .md5).eng = .absorb ∧ Alg.md5.blockSize ≤ (64#8).toNat ∧ Alg.sha512.blockSize ≤ (128#8).toNat ∧
    (63#8).toNat < (running .md5).alg.blockSize ∧ 128 < (129#8).toNat := by decide

theorem witness_StartBeginsRun : (machine (running .md5) []).core.len ≠ 0 := by decide

theorem witness_StartOfEmptyMessageEndsRun : State.reset.core.len = 0 := rfl

theorem witness_HexFormsFillHexbuf : (0#8).toNat ≤ 128 ∧ (128#8).toNat ≤ 128 := by decide

theorem witness_HexBytesPlacesCharacters : 1 < ([0xab, 0x0f] : List Byte).length := by decide

theorem witness_HexEncodingIsInjective : hexBytes true [0xab, 0x0f] = hexBytes true [0xab, 0x0f] := rfl

theorem witness_HexOrdersAgreeWithDigest : md5Abc.alg = .md5 ∧ sha256Abc.alg ≠ .md5 := by decide

theorem witness_DigestBytesAreStateBits : (3 : Nat) < 4 ∧ (7 : Nat) < 8 := by decide

theorem witness_StorageWritesReplaceOnePart : (machine md5Abc []).core.eng ≠ .absorb := by decide

theorem witness_StorageWritesIgnoredDuringRun : (machine (running .md5) []).core.eng = .absorb := rfl

theorem witness_StorageWritesAreIdempotent : ∃ t, exec (.wrBufw 31 0x01020304) State.reset = .next t := ⟨_, rfl⟩

theorem witness_PushOutsideRunIsDropped :
    (machine md5Abc []).core.eng ≠ .absorb ∧ State.reset.core.eng ≠ .absorb := by decide

theorem witness_PushStoresByteInBlock :
    (running .md5).eng = .absorb ∧ (running .md5).fill.toNat + 1 < (running .md5).alg.blockSize ∧
    (running .md5).abs + 1 ≠ (running .md5).len := by decide

theorem witness_PushCompressesFullBlock :
    ({ running .md5 with len := 65, fill := 63, abs := 63 } : CoreState).eng = .absorb ∧
    ({ running .md5 with len := 65, fill := 63, abs := 63 } : CoreState).fill.toNat + 1 = Alg.md5.blockSize ∧
    ({ running .md5 with len := 65, fill := 63, abs := 63 } : CoreState).abs + 1 ≠ 65 := by decide

theorem witness_LastPushPadsAndEndsRun :
    ({ running .md5 with len := 64, fill := 63, abs := 63 } : CoreState).eng = .absorb ∧
    ({ running .md5 with len := 1 } : CoreState).eng = .absorb ∧
    ({ running .md5 with len := 1 } : CoreState).fill.toNat + 1 ≤ Alg.md5.blockSize ∧
    ({ running .md5 with len := 64, fill := 63, abs := 63 } : CoreState).fill.toNat + 1 ≤ Alg.md5.blockSize ∧
    ({ running .md5 with len := 64, fill := 63, abs := 63 } : CoreState).abs + 1 = 64 ∧
    ({ running .md5 with len := 1 } : CoreState).abs + 1 = 1 := by decide

theorem witness_StreamingRunHashesMessage :
    (coreWith .md5 .idle 3).len.toNat = ([0x61, 0x62, 0x63] : List Byte).length ∧
    CoreState.reset.len.toNat = ([] : List Byte).length := by decide

theorem witness_BusSequenceHashesMessage :
    ([0x61] : List Byte).length < 2 ^ 64 ∧
    (machine CoreState.reset ((setLenOps 1 ++ [encode (.start 0)] ++ pushOps [0x61]).map HostMove.op)).core.busy = 0 ∧
    (machine CoreState.reset ((setLenOps 1 ++ [encode (.start 0)] ++ pushOps [0x61]).map HostMove.op)).core.eng ≠
      .absorb := by decide

theorem witness_ShortRunStaysOpen : ([0x61, 0x61] : List Byte).length < (coreWith .md5 .idle 3).len.toNat := by decide

theorem witness_RawPadHashesMessage :
    (abcLoaded .md5).eng ≠ .absorb ∧ RawPadDuty .md5 [0x61, 0x62, 0x63] (3#8).toNat (abcLoaded .md5) :=
  ⟨by decide, rfl, rfl, rfl, rfl, by decide +kernel⟩

theorem witness_PaddingMachineRefinesPad :
    (0 < Alg.md5.blockSize ∧ 55 < Alg.md5.blockSize ∧ 56 < Alg.md5.blockSize ∧ 127 < Alg.sha512.blockSize) ∧ 4 ≤ 4 := by
  decide

theorem witness_RotationsAsNaturals : 0 < 32 ∧ 63 < 64 := by decide

theorem witness_Md5RoundByQuarter : 0 < 64 ∧ 15 < 64 ∧ 16 < 64 ∧ 63 < 64 := by decide

theorem witness_ShaSchedulesFollowRecurrence : 16 ≤ 16 ∧ 63 < 64 ∧ 79 < 80 := by decide

/-- Two states and two blocks that MD5 and SHA-256 cannot tell apart. -/
theorem witness_CompressionReadsOnlyItsBlockAndWords :
    (∀ k < 64, byteAt CoreState.reset.buf k = byteAt (setByte CoreState.reset.buf 64 1) k) ∧
    (∀ i < 8, hLow CoreState.reset.h i = hLow (Vector.replicate 8 0x100000000) i) := by decide +kernel

end Sys2Proof.Tests
end

/-! Proofs about the core's registers (spec/10_state.md). What one operation can do to the core is said once, by
`CoreChange` and `exec_coreChange`; the invariant and the claims about each register are then read off its cases. -/

namespace Sys2Proof

theorem Alg.blockSize_pos (alg : Alg) : 0 < alg.blockSize := by
  cases alg <;> decide

theorem Alg.blockSize_le (alg : Alg) : alg.blockSize ≤ 128 := by
  cases alg <;> decide

theorem Alg.ofCode_eq_none {code : BitVec 2} : Alg.ofCode code = none ↔ code = 3 := by
  revert code; decide

end Sys2Proof

namespace Sys2Proof.Machine

/-! ### What each operation can do to the core -/

/-- Everything one operation can do to the core: each way to change it, with the class of the operation and the state of
the engine in which it happens. -/
inductive CoreChange (i : Instr) (c : CoreState) : CoreState → Prop
  /-- a read, a storage write during a run (R57), a push outside a run (R245) -/
  | kept : CoreChange i c c
  /-- a rejected command (R85) -/
  | byReject (cause : CmdError) (hop : (opOf i).isSome = true) : CoreChange i c { c with errcode := errCode cause }
  | byNop (hop : opOf i = some 0) : CoreChange i c { c with errcode := 0 }
  | byInit (a : Alg) (hop : opOf i = some 1) : CoreChange i c (initEffect a { c with errcode := 0 })
  | byCompress (hop : opOf i = some 2) (heng : c.eng ≠ .absorb) :
      CoreChange i c (compressEffect { c with errcode := 0 })
  | byPad (r : Byte) (hop : opOf i = some 3) (hr : r.toNat < c.alg.blockSize) (heng : c.eng ≠ .absorb) :
      CoreChange i c (padEffect r { c with errcode := 0 })
  | byStart (a : Alg) (hop : opOf i = some 4) : CoreChange i c (startEffect a { c with errcode := 0 })
  | byHex (out : List Byte) (hop : opOf i = some 5) (hout : out.length ≤ 383) :
      CoreChange i c (hexCommon out { c with errcode := 0 })
  | byPush (bytes : List Byte) (hpush : isPush i = true) (heng : c.eng = .absorb) : CoreChange i c (pushAll bytes c)
  | byLenWrite (half : Half) (data : Word32) (hi : i = .wrLen half data) (heng : c.eng ≠ .absorb) :
      CoreChange i c (setLenHalf half data c)
  | byHWrite (k : Fin 8) (half : Half) (data : Word32) (hi : i = .wrH k half data) (heng : c.eng ≠ .absorb) :
      CoreChange i c (setHHalf k half data c)
  | byBufWrite (k : Fin 32) (data : Word32) (hi : i = .wrBufw k data) (heng : c.eng ≠ .absorb) :
      CoreChange i c (setBufWord k data c)

/-! ### The hex encoder's output fits `HEXBUF` -/

@[simp] theorem length_hexPair (b : Byte) : (hexPair b).length = 2 := rfl

theorem length_hexSep_le (delim : Bool) : (hexSep delim).length ≤ 1 := by
  cases delim <;> decide

/-- R271: two characters a byte and at most one between two bytes. -/
theorem length_hexBytes_le (delim : Bool) (l : List Byte) : (hexBytes delim l).length ≤ 3 * l.length - 1 := by
  induction l using hexBytes.induct with
  | case1 => simp [hexBytes]
  | case2 b => simp [hexBytes]
  | case3 b b' rest ih =>
    have hsep := length_hexSep_le delim
    simp only [hexBytes, List.length_append, length_hexPair, List.length_cons] at ih ⊢
    omega

theorem length_hexBytes_le_of_length_le (delim : Bool) {l : List Byte} (hl : l.length ≤ 128) :
    (hexBytes delim l).length ≤ 383 := by
  have := length_hexBytes_le delim l
  omega

theorem length_serialize_le (alg : Alg) (h : HFile) : (serialize alg h).length ≤ 128 := by
  cases alg <;> simp [serialize]

@[simp] theorem length_bytesOf {w : Nat} (order : ByteOrder) (v : BitVec w) : (bytesOf order v).length = w / 8 := by
  cases order <;> simp [bytesOf]

theorem length_stateBytes_le (alg : Alg) (order : ByteOrder) (h : HFile) : (stateBytes alg order h).length ≤ 128 := by
  cases alg <;> simp [stateBytes, List.length_flatMap]

theorem length_bufPrefix (n : Nat) (buf : Buf) : (bufPrefix n buf).length = n := by
  simp [bufPrefix]

section HexForms

variable {i : Instr} {c : CoreState} (hop : opOf i = some 5) (delim : Bool)
include hop

theorem CoreChange.of_hexDigest : CoreChange i c (hexDigestEffect delim { c with errcode := 0 }) :=
  .byHex _ hop (length_hexBytes_le_of_length_le delim (length_serialize_le _ _))

theorem CoreChange.of_hexLe : CoreChange i c (hexLeEffect delim { c with errcode := 0 }) :=
  .byHex _ hop (length_hexBytes_le_of_length_le delim (length_stateBytes_le _ _ _))

theorem CoreChange.of_hexBe : CoreChange i c (hexBeEffect delim { c with errcode := 0 }) :=
  .byHex _ hop (length_hexBytes_le_of_length_le delim (length_stateBytes_le _ _ _))

theorem CoreChange.of_hexBuf {n : Byte} (hn : n.toNat ≤ 128) :
    CoreChange i c (hexBufEffect n delim { c with errcode := 0 }) :=
  .byHex _ hop (length_hexBytes_le_of_length_le delim (by simpa only [length_bufPrefix] using hn))

end HexForms

/-! ### The write of `CMD` -/

/-- R85: acceptance is that no check fails. -/
theorem rejection_eq_none {cmd : Word32} {c : CoreState} :
    rejection cmd c = none ↔ (cmdOp cmd).toNat < 6 ∧ mustBeZeroBroken cmd = false ∧ badAlgField cmd = false ∧
      badCountField cmd c.alg = false ∧ badEngState cmd c.eng = false := by
  unfold rejection
  split_ifs <;> simp_all

/-- R84: the form that `SRC` selects is one of the four. -/
theorem CoreChange.of_hexEffect {i : Instr} {cmd : Word32} {c : CoreState} (hop : opOf i = some 5)
    (hcount : cmdSrc cmd = 3 → (cmdCount cmd).toNat ≤ 128) :
    CoreChange i c (hexEffect cmd { c with errcode := 0 }) := by
  unfold hexEffect
  split
  · exact .of_hexDigest hop _
  · exact .of_hexLe hop _
  · exact .of_hexBe hop _
  next h0 h1 h2 =>
    have hsrc : cmdSrc cmd = 3 := by
      have hlt := (cmdSrc cmd).isLt
      rw [imp_false] at h0 h1 h2
      exact BitVec.eq_of_toNat_eq (show (cmdSrc cmd).toNat = 3 by omega)
    exact .of_hexBuf hop _ (hcount hsrc)

/-- R85: the operation of an accepted word is one of the commands, its field values and the engine's state checked. -/
theorem CoreChange.of_execute {cmd : Word32} {c : CoreState} (hrej : rejection cmd c = none) :
    CoreChange (.wrCmd cmd) c (execute cmd { c with errcode := 0 }) := by
  obtain ⟨hlt, -, halg, hcount, heng⟩ := rejection_eq_none.mp hrej
  have hop {k : BitVec 4} (hk : (cmdOp cmd).toNat = k.toNat) : cmdOp cmd = k := BitVec.eq_of_toNat_eq hk
  unfold execute
  split
  next h => exact .byNop (congrArg some (hop h))
  next h =>
    have h1 : cmdOp cmd = 1 := hop h
    unfold withAlgField
    split
    · exact .byInit _ (congrArg some h1)
    next hnone => simp [badAlgField, h1, Alg.ofCode_eq_none.mp hnone] at halg
  next h =>
    have h2 : cmdOp cmd = 2 := hop h
    exact .byCompress (congrArg some h2) (by simpa [badEngState, h2] using heng)
  next h =>
    have h3 : cmdOp cmd = 3 := hop h
    exact .byPad _ (congrArg some h3) (by simpa [badCountField, h3] using hcount)
      (by simpa [badEngState, h3] using heng)
  next h =>
    have h4 : cmdOp cmd = 4 := hop h
    unfold withAlgField
    split
    · exact .byStart _ (congrArg some h4)
    next hnone => simp [badAlgField, h4, Alg.ofCode_eq_none.mp hnone] at halg
  next h =>
    have h5 : cmdOp cmd = 5 := hop h
    exact .of_hexEffect (congrArg some h5) fun hsrc => by simpa [badCountField, h5, hsrc] using hcount
  next h0 h1 h2 h3 h4 h5 =>
    rw [imp_false] at h0 h1 h2 h3 h4 h5
    omega

/-! ### Every operation -/

section Endings

variable {i : Instr} {s t : State}

theorem CoreChange.of_finishRead {v : Word32} (h : finishRead s v = .next t) : CoreChange i s.core t.core := by
  rw [finishRead_next.mp h]
  exact .kept

theorem CoreChange.of_reject {cause : CmdError} (hop : (opOf i).isSome = true) (h : reject s cause = .next t) :
    CoreChange i s.core t.core := by
  rw [reject_next.mp h]
  exact .byReject cause hop

theorem CoreChange.of_accept {f : CoreState → CoreState} (hf : CoreChange i s.core (f { s.core with errcode := 0 }))
    (h : accept s f = .next t) : CoreChange i s.core t.core := by
  rwa [accept_next.mp h]

theorem CoreChange.of_storageWrite {f : CoreState → CoreState}
    (hf : s.core.eng ≠ .absorb → CoreChange i s.core (f s.core)) (h : storageWrite s f = .next t) :
    CoreChange i s.core t.core := by
  obtain ⟨-, rfl⟩ | ⟨heng, rfl⟩ := storageWrite_next.mp h
  · exact .kept
  · exact hf heng

theorem CoreChange.of_pushAll {bytes : List Byte} (hpush : isPush i = true)
    (h : finishWrite s (pushAll bytes s.core) = .next t) : CoreChange i s.core t.core := by
  rw [finishWrite_next.mp h]
  by_cases heng : s.core.eng = .absorb
  · exact .byPush bytes hpush heng
  · simpa only [pushAll_of_not_absorb heng] using CoreChange.kept

end Endings

/-- What an operation that ends in a next state has done to the core. -/
theorem exec_coreChange {i : Instr} {s t : State} (h : exec i s = .next t) : CoreChange i s.core t.core := by
  cases i <;> simp only [exec] at h
  case nop => exact .of_accept (.byNop rfl) h
  case init alg =>
    unfold execInit at h
    split at h
    · exact .of_reject rfl h
    · exact .of_accept (.byInit _ rfl) h
  case compress =>
    unfold execCompress at h
    split_ifs at h with heng
    · exact .of_reject rfl h
    · exact .of_accept (.byCompress rfl heng) h
  case pad r =>
    unfold execPad at h
    split_ifs at h with hr heng
    · exact .of_reject rfl h
    · exact .of_reject rfl h
    · exact .of_accept (.byPad r rfl (Nat.lt_of_not_le hr) heng) h
  case start alg =>
    unfold execStart at h
    split at h
    · exact .of_reject rfl h
    · exact .of_accept (.byStart _ rfl) h
  case hexDigest delim => exact .of_accept (.of_hexDigest rfl delim) h
  case hexLe delim => exact .of_accept (.of_hexLe rfl delim) h
  case hexBe delim => exact .of_accept (.of_hexBe rfl delim) h
  case hexBuf n delim =>
    unfold execHexBuf at h
    split_ifs at h with hn
    · exact .of_reject rfl h
    · exact .of_accept (.of_hexBuf rfl delim (Nat.le_of_not_lt hn)) h
  case wrCmd data =>
    unfold execWrCmd at h
    split at h
    · exact .of_reject rfl h
    next hrej => exact .of_accept (.of_execute hrej) h
  case wrLen half data => exact .of_storageWrite (.byLenWrite half data rfl) h
  case wrData8 data => exact .of_pushAll (bytes := [lane data 0]) rfl h
  case wrData32 data => exact .of_pushAll rfl h
  case wrH k half data => exact .of_storageWrite (.byHWrite k half data rfl) h
  case wrBufw k data => exact .of_storageWrite (.byBufWrite k data rfl) h
  all_goals exact .of_finishRead h

/-! ### `H` as the algorithm leaves it (R22) -/

theorem toNat_zeroExtend_lt (v : Word32) : (v.setWidth 64).toNat < 2 ^ 32 := by
  rw [BitVec.toNat_setWidth_of_le (by decide)]
  exact v.isLt

/-- R140, R170: the initial values of the 32-bit algorithms are zero-extended. -/
theorem canonicalH_iv (alg : Alg) : CanonicalH alg (iv alg) := by
  cases alg
  case md5 => exact (by decide : ∀ i : Fin 8, ivMd5[i].toNat < 2 ^ 32 ∧ (4 ≤ i.val → ivMd5[i] = 0))
  case sha256 => exact (by decide : ∀ i : Fin 8, iv256[i].toNat < 2 ^ 32)
  case sha512 => trivial

/-- R147: MD5's final addition leaves zero-extended words, and 0 in `H[4..7]`. -/
theorem canonicalH_md5Finish (h : HFile) (v : Md5Vars) : CanonicalH .md5 (md5Finish h v) := by
  intro i
  match i with
  | 0 | 1 | 2 | 3 => exact ⟨toNat_zeroExtend_lt _, fun hi => absurd hi (by decide)⟩
  | 4 | 5 | 6 | 7 => exact ⟨Nat.two_pow_pos 32, fun _ => rfl⟩

/-- R178: SHA-256's final addition leaves zero-extended words. -/
theorem canonicalH_finish256 (h : HFile) (v : ShaVars 32) : CanonicalH .sha256 (finish256 h v) := by
  intro i
  match i with
  | 0 | 1 | 2 | 3 | 4 | 5 | 6 | 7 => exact toNat_zeroExtend_lt _

theorem canonicalH_compress (alg : Alg) (h : HFile) (buf : Buf) : CanonicalH alg (compress alg h buf) := by
  cases alg
  case md5 => exact canonicalH_md5Finish _ _
  case sha256 => exact canonicalH_finish256 _ _
  case sha512 => trivial

/-! ### The parts of a run -/

theorem startEffect_of_empty {c : CoreState} (hlen : c.len = 0) (a : Alg) :
    startEffect a c = endRun 0 (beginRun a c) :=
  if_pos hlen

theorem startEffect_of_nonempty {c : CoreState} (hlen : c.len ≠ 0) (a : Alg) : startEffect a c = beginRun a c :=
  if_neg hlen

theorem checkEnd_of_end {c : CoreState} (hend : c.abs = c.len) : checkEnd c = endRun c.fill.toNat c :=
  if_pos hend

theorem checkEnd_of_not_end {c : CoreState} (hend : c.abs ≠ c.len) : checkEnd c = c :=
  if_neg hend

theorem flushBlock_fill (c : CoreState) :
    (flushBlock c).fill = if c.fill.toNat = c.alg.blockSize then 0 else c.fill := by
  unfold flushBlock
  split <;> rfl

/-- A flush leaves `H` alone or compresses a block into it. -/
theorem canonicalH_flushBlock {c : CoreState} (hc : CanonicalH c.alg c.h) : CanonicalH c.alg (flushBlock c).h := by
  unfold flushBlock
  split
  · exact canonicalH_compress _ _ _
  · exact hc

/-! ### What keeps the invariant -/

/-- R331: no cause has the code 6 or 7. -/
theorem errCode_le (cause : CmdError) : (errCode cause).toNat ≤ 5 := by
  cases cause <;> decide

theorem inv_reset : Inv CoreState.reset where
  notBusy := rfl
  fillInBlock := by decide
  errcodeProduced := by decide
  hexlenBound := by decide
  hexbufTail k _ := by simp [CoreState.reset]
  runUnfinished h := by cases h
  runFill h := by cases h
  runH h := by cases h

/-- Outside a run the invariant speaks of `BUSY`, `FILL`, `ERRCODE` and the hex output only. -/
theorem Inv.outside_run {c c' : CoreState} (hc : Inv c) (heng : c'.eng ≠ .absorb)
    (hfill : c'.fill.toNat < c'.alg.blockSize) (hbusy : c'.busy = c.busy) (herr : c'.errcode = c.errcode)
    (hbuf : c'.hexbuf = c.hexbuf) (hlen : c'.hexlen = c.hexlen) : Inv c' where
  notBusy := hbusy ▸ hc.notBusy
  fillInBlock := hfill
  errcodeProduced := herr ▸ hc.errcodeProduced
  hexlenBound := hlen ▸ hc.hexlenBound
  hexbufTail := by simpa only [hbuf, hlen] using hc.hexbufTail
  runUnfinished h := absurd h heng
  runFill h := absurd h heng
  runH h := absurd h heng

section Effects

variable {c : CoreState} (hc : Inv c)
include hc

theorem Inv.with_errcode {code : BitVec 3} (hcode : code.toNat ≤ 5) : Inv { c with errcode := code } :=
  { hc with errcodeProduced := hcode }

theorem Inv.with_busy_zero : Inv { c with busy := 0 } :=
  { hc with notBusy := rfl }

theorem inv_initEffect (a : Alg) : Inv (initEffect a c) :=
  hc.outside_run (by simp) (by simp [Alg.blockSize_pos]) rfl rfl rfl rfl

theorem inv_compressEffect : Inv (compressEffect c) :=
  hc.outside_run (by simp) hc.fillInBlock rfl rfl rfl rfl

theorem inv_padEffect (r : Byte) : Inv (padEffect r c) :=
  hc.outside_run (by simp) (by simpa using hc.fillInBlock) (by simp) (by simp) (by simp) (by simp)

/-- A run that has just begun has absorbed nothing, and holds the initial value. -/
theorem inv_beginRun (hlen : c.len ≠ 0) (a : Alg) : Inv (beginRun a c) :=
  { hc with
    fillInBlock := a.blockSize_pos
    runUnfinished := fun _ => Nat.pos_of_ne_zero fun h => hlen (BitVec.eq_of_toNat_eq h)
    runFill := fun _ => (Nat.zero_mod _).symm
    runH := fun _ => canonicalH_iv a }

theorem inv_startEffect (a : Alg) : Inv (startEffect a c) := by
  by_cases hlen : c.len = 0
  · exact hc.outside_run (by simp [startEffect_of_empty hlen]) (by simp [Alg.blockSize_pos]) (by simp) (by simp)
      (by simp) (by simp)
  · exact startEffect_of_nonempty hlen a ▸ inv_beginRun hc hlen a

theorem inv_hexCommon {out : List Byte} (hout : out.length ≤ 383) : Inv (hexCommon out c) := by
  have hlen : (hexCommon out c).hexlen.toNat = out.length := by
    rw [hexCommon_hexlen, BitVec.toNat_ofNat, Nat.mod_eq_of_lt (by omega)]
  have htail (k : Fin 384) (hk : (hexCommon out c).hexlen.toNat ≤ k.val) : (hexCommon out c).hexbuf[k] = 0 := by
    simpa using listByte_of_ge out (hlen ▸ hk)
  exact {
    notBusy := by simpa using hc.notBusy
    fillInBlock := by simpa using hc.fillInBlock
    errcodeProduced := by simpa using hc.errcodeProduced
    hexlenBound := hlen ▸ hout
    hexbufTail := htail
    runUnfinished := by simpa using hc.runUnfinished
    runFill := by simpa using hc.runFill
    runH := by simpa using hc.runH }

theorem inv_setLenHalf (heng : c.eng ≠ .absorb) (half : Half) (data : Word32) : Inv (setLenHalf half data c) :=
  hc.outside_run heng hc.fillInBlock rfl rfl rfl rfl

theorem inv_setHHalf (heng : c.eng ≠ .absorb) (k : Fin 8) (half : Half) (data : Word32) :
    Inv (setHHalf k half data c) :=
  hc.outside_run heng hc.fillInBlock rfl rfl rfl rfl

theorem inv_setBufWord (heng : c.eng ≠ .absorb) (k : Fin 32) (data : Word32) : Inv (setBufWord k data c) :=
  hc.outside_run (by simpa using heng) (by simpa using hc.fillInBlock) (by simp) (by simp) (by simp) (by simp)

/-- R242, R38: after the flush `FILL` is again `ABS` mod the block size. -/
theorem fill_flushBlock_absorbByte (heng : c.eng = .absorb) (b : Byte) :
    (flushBlock (absorbByte b c)).fill.toNat = (c.abs.toNat + 1) % c.alg.blockSize := by
  have hlt := hc.fillInBlock
  have hle := c.alg.blockSize_le
  have hsucc : (c.fill + 1).toNat = c.fill.toNat + 1 :=
    BitVec.toNat_add_of_lt (by simp; omega)
  have hmod : (c.abs.toNat + 1) % c.alg.blockSize = (c.fill.toNat + 1) % c.alg.blockSize := by
    rw [hc.runFill heng, Nat.mod_add_mod]
  rw [flushBlock_fill, absorbByte_fill, absorbByte_alg, hsucc, hmod]
  split_ifs with hfull
  · simp [hfull]
  · rw [hsucc, Nat.mod_eq_of_lt (by omega)]

theorem fill_flushBlock_absorbByte_lt (heng : c.eng = .absorb) (b : Byte) :
    (flushBlock (absorbByte b c)).fill.toNat < c.alg.blockSize :=
  fill_flushBlock_absorbByte hc heng b ▸ Nat.mod_lt _ c.alg.blockSize_pos

/-- An absorb step before the last byte of the message. -/
theorem inv_flushBlock_absorbByte (heng : c.eng = .absorb) (b : Byte) (hend : c.abs + 1 ≠ c.len) :
    Inv (flushBlock (absorbByte b c)) := by
  have hfill := fill_flushBlock_absorbByte hc heng b
  have habs : (c.abs + 1).toNat = c.abs.toNat + 1 := by
    have := hc.runUnfinished heng
    exact BitVec.toNat_add_of_lt (by simp; omega)
  have hne : c.abs.toNat + 1 ≠ c.len.toNat := fun h => hend (BitVec.eq_of_toNat_eq (habs.trans h))
  exact {
    notBusy := by simpa using hc.notBusy
    fillInBlock := by simpa using fill_flushBlock_absorbByte_lt hc heng b
    errcodeProduced := by simpa using hc.errcodeProduced
    hexlenBound := by simpa using hc.hexlenBound
    hexbufTail := by simpa using hc.hexbufTail
    runUnfinished := fun _ => by
      have := hc.runUnfinished heng
      simp only [flushBlock_abs, absorbByte_abs, flushBlock_len, absorbByte_len, habs]
      omega
    runFill := fun _ => by simpa only [flushBlock_abs, absorbByte_abs, flushBlock_alg, absorbByte_alg, habs] using hfill
    runH := fun _ => by simpa using canonicalH_flushBlock (c := absorbByte b c) (hc.runH heng) }

theorem inv_push (b : Byte) : Inv (push b c) := by
  obtain ⟨-, hdrop⟩ | ⟨heng, hpush⟩ := push_cases b c
  · rwa [hdrop]
  by_cases hend : c.abs + 1 = c.len
  · have hfinal : (push b c).eng = .final := by rw [hpush, checkEnd_of_end (by simpa using hend), endRun_eng]
    have hfill : (push b c).fill.toNat < c.alg.blockSize := by
      rw [hpush, checkEnd_fill]
      exact fill_flushBlock_absorbByte_lt hc heng b
    exact hc.outside_run (by simp [hfinal]) (by simpa using hfill) (by simp) (by simp) (by simp) (by simp)
  · rw [hpush, checkEnd_of_not_end (by simpa using hend)]
    exact inv_flushBlock_absorbByte hc heng b hend

end Effects

theorem inv_pushAll {c : CoreState} (hc : Inv c) (bytes : List Byte) : Inv (pushAll bytes c) := by
  induction bytes generalizing c with
  | nil => exact hc
  | cons b bs ih => exact ih (inv_push hc b)

theorem CoreChange.inv {i : Instr} {c c' : CoreState} (h : CoreChange i c c') (hc : Inv c) : Inv c' := by
  have hok : Inv { c with errcode := 0 } := hc.with_errcode (by decide)
  cases h with
  | kept => exact hc
  | byReject cause => exact hc.with_errcode (errCode_le cause)
  | byNop => exact hok
  | byInit a => exact inv_initEffect hok a
  | byCompress => exact inv_compressEffect hok
  | byPad r => exact inv_padEffect hok r
  | byStart a => exact inv_startEffect hok a
  | byHex out _ hout => exact inv_hexCommon hok hout
  | byPush bytes => exact inv_pushAll hc bytes
  | byLenWrite half data _ heng => exact inv_setLenHalf hc heng half data
  | byHWrite k half data _ heng => exact inv_setHHalf hc heng k half data
  | byBufWrite k data _ heng => exact inv_setBufWord hc heng k data

/-! ### Steps -/

/-- What one host operation that ends in a next state leaves in the core. -/
theorem inv_runOp {o : HostOp} {s t : State} (hs : Inv s.core) (h : runOp o s = .next t) : Inv t.core := by
  unfold runOp at h
  split at h
  · exact (exec_coreChange h).inv hs
  next cause _ =>
    cases cause with
    | command e => exact reject_next.mp h ▸ hs.with_errcode (errCode_le e)
    | bus e => exact busFault_next.mp h ▸ hs
    | outsideWindow offset => cases h

theorem inv_endBusy {s t : State} (hs : Inv s.core) (h : endBusy s = .next t) : Inv t.core := by
  cases h
  exact hs.with_busy_zero

/-- Settles O13, from the reset values (R370). -/
theorem resetMeetsObservableInvariant : Obligations.ResetMeetsObservableInvariant := inv_reset

/-- Settles O14: each host move keeps the invariant, the operations by what they can do to the core. -/
theorem stepKeepsObservableInvariant : Obligations.StepKeepsObservableInvariant := by
  intro s t hs h
  unfold step runStep at h
  split at h
  · cases h
    exact inv_reset
  · split_ifs at h
    · cases h
      exact hs
    · exact inv_endBusy hs h
  next _ rest _ =>
    split_ifs at h
    · exact inv_runOp (s := { s with pending := rest }) hs h
    · exact inv_endBusy hs h

/-! ### The engine's transitions (R26) -/

theorem startEffect_eng (a : Alg) (c : CoreState) :
    (startEffect a c).eng = if c.len = 0 then .final else .absorb := by
  unfold startEffect
  split <;> rfl

/-- A push leaves `ENG` alone, or it is the one that brings `ABS = LEN`. -/
theorem push_eng (b : Byte) (c : CoreState) :
    (push b c).eng = c.eng ∨ ((push b c).eng = .final ∧ (push b c).abs = c.len) := by
  obtain ⟨-, hdrop⟩ | ⟨-, hpush⟩ := push_cases b c
  · exact .inl (congrArg CoreState.eng hdrop)
  by_cases hend : c.abs + 1 = c.len
  · rw [hpush, checkEnd_of_end (by simpa using hend)]
    exact .inr (by simpa using hend)
  · rw [hpush, checkEnd_of_not_end (by simpa using hend)]
    exact .inl (by simp)

theorem pushAll_eng (bytes : List Byte) (c : CoreState) :
    (pushAll bytes c).eng = c.eng ∨ ((pushAll bytes c).eng = .final ∧ (pushAll bytes c).abs = c.len) := by
  induction bytes generalizing c with
  | nil => exact .inl rfl
  | cons b bs ih =>
    have htail : pushAll (b :: bs) c = pushAll bs (push b c) := rfl
    rw [htail]
    obtain hsame | ⟨hfinal, habs⟩ := push_eng b c
    · simpa [hsame] using ih (push b c)
    · rw [pushAll_of_not_absorb (by simp [hfinal])]
      exact .inr ⟨hfinal, habs⟩

/-- Settles O18: by what each operation can do to the core. -/
theorem engineTransitionsAreTheTable : Obligations.EngineTransitionsAreTheTable := by
  intro i s t h
  have hchange := exec_coreChange h
  generalize t.core = c' at hchange ⊢
  cases hchange with
  | kept | byReject | byNop | byLenWrite | byHWrite => exact .inl rfl
  | byInit a hop => exact .inr (.inl ⟨rfl, .inl hop⟩)
  | byCompress hop heng => exact .inr (.inl ⟨rfl, .inr ⟨hop, heng⟩⟩)
  | byPad r hop _ heng => exact .inr (.inr (.inr ⟨rfl, .inr (.inl ⟨hop, heng⟩)⟩))
  | byStart a hop =>
    by_cases hlen : s.core.len = 0
    · exact .inr (.inr (.inr ⟨(startEffect_eng a _).trans (if_pos hlen), .inl ⟨hop, hlen⟩⟩))
    · exact .inr (.inr (.inl ⟨(startEffect_eng a _).trans (if_neg hlen), hop, hlen⟩))
  | byHex | byBufWrite => exact .inl (by simp)
  | byPush bytes hpush heng =>
    obtain hsame | ⟨hfinal, habs⟩ := pushAll_eng bytes s.core
    · exact .inl hsame
    · exact .inr (.inr (.inr ⟨hfinal, .inr (.inr ⟨hpush, heng, by simpa using habs⟩)⟩))

/-! ### The writers of each register -/

/-- R241: only an empty message makes `START` write `BUF`. -/
theorem startEffect_buf_of_nonempty {c : CoreState} (hlen : c.len ≠ 0) (a : Alg) : (startEffect a c).buf = c.buf := by
  rw [startEffect_of_nonempty hlen, beginRun_buf]

/-- Settles O16: by what each operation can do to the core. -/
theorem registersChangeOnlyByTheirWriters : Obligations.RegistersChangeOnlyByTheirWriters := by
  intro i s t h
  have hchange := exec_coreChange h
  generalize t.core = c' at hchange ⊢
  cases hchange with
  | kept => simp
  | byReject cause hop => simp [hop]
  | byNop hop => simp [hop]
  | byInit a hop => simp [hop]
  | byCompress hop heng => simp [hop, heng]
  | byPad r hop _ heng => simp [hop, heng]
  | byStart a hop =>
    have hbuf : (startEffect a { s.core with errcode := 0 }).buf ≠ s.core.buf → s.core.len = 0 := fun hne =>
      by_contra fun hlen => hne (startEffect_buf_of_nonempty (c := { s.core with errcode := 0 }) hlen a)
    simpa [hop] using fun hne => .inl (hbuf hne)
  | byHex out hop => simp [hop]
  | byPush bytes hpush heng => simp [hpush, heng]
  | byLenWrite half data hi heng => simp [hi, heng]
  | byHWrite k half data hi heng => simp [hi, heng]
  | byBufWrite k data hi heng => simp [hi, heng]

/-! ### `BUF` beyond the block (R23) -/

theorem byteAt_putLenField_of_ge (alg : Alg) (len : Word64) (buf : Buf) {k : Nat} (hk : alg.blockSize ≤ k)
    (hlt : k < 128) : byteAt (putLenField alg len buf) k = byteAt buf k := by
  have hfield : alg.lenFieldBytes ≤ alg.blockSize := by cases alg <;> decide
  rw [putLenField, byteAt_writeBytes _ _ _ hlt, length_lenField, if_neg (by omega)]

theorem byteAt_oneBlock_of_ge (alg : Alg) (len : Word64) (buf : Buf) {r k : Nat} (hr : r < alg.blockSize)
    (hk : alg.blockSize ≤ k) (hlt : k < 128) : byteAt (oneBlock alg len r buf) k = byteAt buf k := by
  rw [oneBlock, byteAt_putLenField_of_ge _ _ _ hk hlt, byteAt_fillBytes _ _ _ _ hlt, byteAt_setByte _ _ _ hlt,
    if_neg (by omega), if_neg (by omega)]

theorem byteAt_firstBlock_of_ge (alg : Alg) (buf : Buf) {r k : Nat} (hr : r < alg.blockSize)
    (hk : alg.blockSize ≤ k) (hlt : k < 128) : byteAt (firstBlock alg r buf) k = byteAt buf k := by
  rw [firstBlock, byteAt_fillBytes _ _ _ _ hlt, byteAt_setByte _ _ _ hlt, if_neg (by omega), if_neg (by omega)]

theorem byteAt_secondBlock_of_ge (alg : Alg) (len : Word64) (buf : Buf) {k : Nat} (hk : alg.blockSize ≤ k)
    (hlt : k < 128) : byteAt (secondBlock alg len buf) k = byteAt buf k := by
  rw [secondBlock, byteAt_putLenField_of_ge _ _ _ hk hlt, byteAt_fillBytes _ _ _ _ hlt, if_neg (by omega)]

/-- R211: padding a tail shorter than the block writes within the block. -/
theorem byteAt_pad_of_ge {c : CoreState} {r k : Nat} (hr : r < c.alg.blockSize) (hk : c.alg.blockSize ≤ k)
    (hlt : k < 128) : byteAt (pad r c).buf k = byteAt c.buf k := by
  obtain ⟨-, hpad⟩ | ⟨-, hpad⟩ := pad_cases r c
  · rw [hpad]
    exact byteAt_oneBlock_of_ge _ _ _ hr hk hlt
  · rw [hpad]
    exact (byteAt_secondBlock_of_ge _ _ _ hk hlt).trans (byteAt_firstBlock_of_ge _ _ hr hk hlt)

theorem byteAt_startEffect_of_ge {a : Alg} {c : CoreState} {k : Nat} (hk : a.blockSize ≤ k) (hlt : k < 128) :
    byteAt (startEffect a c).buf k = byteAt c.buf k := by
  by_cases hlen : c.len = 0
  · rw [startEffect_of_empty hlen]
    exact byteAt_pad_of_ge (c := beginRun a c) a.blockSize_pos hk hlt
  · rw [startEffect_buf_of_nonempty hlen]

/-- R242: a pushed byte goes into the block, and so does the padding of the tail it may complete. -/
theorem byteAt_push_of_ge {c : CoreState} (hc : Inv c) (b : Byte) {k : Nat} (hk : c.alg.blockSize ≤ k)
    (hlt : k < 128) : byteAt (push b c).buf k = byteAt c.buf k := by
  obtain ⟨-, hdrop⟩ | ⟨heng, hpush⟩ := push_cases b c
  · rw [hdrop]
  have hstore : byteAt (flushBlock (absorbByte b c)).buf k = byteAt c.buf k := by
    have := hc.fillInBlock
    rw [flushBlock_buf, absorbByte_buf, byteAt_setByte _ _ _ hlt, if_neg (by omega)]
  by_cases hend : c.abs + 1 = c.len
  · have htail : (flushBlock (absorbByte b c)).fill.toNat < (flushBlock (absorbByte b c)).alg.blockSize := by
      simpa using fill_flushBlock_absorbByte_lt hc heng b
    rw [hpush, checkEnd_of_end (by simpa using hend), endRun_buf, byteAt_pad_of_ge htail (by simpa using hk) hlt,
      hstore]
  · rw [hpush, checkEnd_of_not_end (by simpa using hend), hstore]

theorem byteAt_pushAll_of_ge {c : CoreState} (hc : Inv c) (bytes : List Byte) {k : Nat} (hk : c.alg.blockSize ≤ k)
    (hlt : k < 128) : byteAt (pushAll bytes c).buf k = byteAt c.buf k := by
  induction bytes generalizing c with
  | nil => rfl
  | cons b bs ih => exact (ih (inv_push hc b) (by simpa using hk)).trans (byteAt_push_of_ge hc b hk hlt)

/-- Settles O17: by what each operation can do to the core. -/
theorem upperBufferWrittenOnlyByWindow : Obligations.UpperBufferWrittenOnlyByWindow := by
  intro i s t hs h hbs hwindow k hk hlt
  have hchange := exec_coreChange h
  rw [← hbs] at hk
  clear hbs
  generalize t.core = c' at hchange hk ⊢
  cases hchange with
  | kept | byReject | byNop | byInit | byCompress | byLenWrite | byHWrite => rfl
  | byPad r _ hr => exact byteAt_pad_of_ge (c := { s.core with errcode := 0 }) hr (by simpa using hk) hlt
  | byStart a => exact byteAt_startEffect_of_ge (by simpa using hk) hlt
  | byHex out => rw [hexCommon_buf]
  | byPush bytes => exact byteAt_pushAll_of_ge hs bytes (by simpa using hk) hlt
  | byBufWrite k data hi => exact absurd hi (hwindow k data)

/-! ### What a compression depends on (R22) -/

section LowHalves

variable {h h' : HFile}

/-- R148: MD5 starts from the low halves of `H[0..3]`. -/
theorem md5Start_congr (hh : ∀ i < 4, hLow h i = hLow h' i) : md5Start h = md5Start h' := by
  simp (disch := decide) only [md5Start, hh]

/-- R147: MD5 adds to the low halves of `H[0..3]`. -/
theorem md5Finish_congr (hh : ∀ i < 4, hLow h i = hLow h' i) (v : Md5Vars) : md5Finish h v = md5Finish h' v := by
  simp (disch := decide) only [md5Finish, hh]

/-- R179: SHA-256 starts from the low halves of `H[0..7]`. -/
theorem start256_congr (hh : ∀ i < 8, hLow h i = hLow h' i) : start256 h = start256 h' := by
  simp (disch := decide) only [start256, hh]

/-- R178: SHA-256 adds to the low halves of `H[0..7]`. -/
theorem finish256_congr (hh : ∀ i < 8, hLow h i = hLow h' i) (v : ShaVars 32) : finish256 h v = finish256 h' v := by
  simp (disch := decide) only [finish256, hh]

end LowHalves

section Blocks

variable {buf buf' : Buf} (hbuf : ∀ k < 64, byteAt buf k = byteAt buf' k)
include hbuf

/-- R141: MD5's message words are those of the bytes 0 to 63. -/
theorem md5Words_congr : md5Words buf = md5Words buf' := by
  refine List.map_congr_left fun j hj => ?_
  have hj16 : j < 16 := List.mem_range.mp hj
  simp only [packLe32, hbuf (4 * j) (by omega), hbuf (4 * j + 1) (by omega), hbuf (4 * j + 2) (by omega),
    hbuf (4 * j + 3) (by omega)]

/-- R174, R175: SHA-256's schedule is that of the bytes 0 to 63. -/
theorem schedule256_congr : schedule256 buf = schedule256 buf' := by
  refine congrArg (shaSchedule fns256 · 48) (List.map_congr_left fun j hj => ?_)
  have hj16 : j < 16 := List.mem_range.mp hj
  simp only [packBe32, hbuf (4 * j) (by omega), hbuf (4 * j + 1) (by omega), hbuf (4 * j + 2) (by omega),
    hbuf (4 * j + 3) (by omega)]

theorem md5Compress_congr {h h' : HFile} (hh : ∀ i < 4, hLow h i = hLow h' i) :
    md5Compress h buf = md5Compress h' buf' := by
  rw [md5Compress, md5Compress, md5Words_congr hbuf, md5Start_congr hh, md5Finish_congr hh]

theorem sha256Compress_congr {h h' : HFile} (hh : ∀ i < 8, hLow h i = hLow h' i) :
    sha256Compress h buf = sha256Compress h' buf' := by
  rw [sha256Compress, sha256Compress, schedule256_congr hbuf, start256_congr hh, finish256_congr hh]

end Blocks

/-- Settles O60: by the two congruences of the compressions, and by what their final additions write. -/
theorem compressionReadsOnlyItsBlockAndWords : Obligations.CompressionReadsOnlyItsBlockAndWords :=
  ⟨fun _ _ _ _ hbuf => ⟨fun hh => md5Compress_congr hbuf hh, fun hh => sha256Compress_congr hbuf hh⟩,
    fun alg h buf => ⟨canonicalH_compress alg h buf, canonicalH_iv alg⟩⟩

/-! ### `STATUS` (R33) -/


/-- R33: the table of the fields, bit 31 first. -/
theorem statusWord_eq_append (c : CoreState) :
    statusWord c = 0#21 ++ c.errcode ++ 0#2 ++ c.alg.code ++ 0#1 ++ c.eng.code ++ c.busy := by
  ext k hk
  simp only [statusWord, BitVec.getElem_or, BitVec.getElem_shiftLeft, BitVec.getElem_setWidth]
  grind

/-- Each of seven fields of these widths stands at the sum of the widths below it. -/
theorem extractLsb'_append_fields (r2 : BitVec 21) (e : BitVec 3) (r1 : BitVec 2) (a : BitVec 2) (r0 : BitVec 1)
    (g : BitVec 2) (b : BitVec 1) :
    (r2 ++ e ++ r1 ++ a ++ r0 ++ g ++ b).extractLsb' 0 1 = b ∧
    (r2 ++ e ++ r1 ++ a ++ r0 ++ g ++ b).extractLsb' 1 2 = g ∧
    (r2 ++ e ++ r1 ++ a ++ r0 ++ g ++ b).extractLsb' 3 1 = r0 ∧
    (r2 ++ e ++ r1 ++ a ++ r0 ++ g ++ b).extractLsb' 4 2 = a ∧
    (r2 ++ e ++ r1 ++ a ++ r0 ++ g ++ b).extractLsb' 6 2 = r1 ∧
    (r2 ++ e ++ r1 ++ a ++ r0 ++ g ++ b).extractLsb' 8 3 = e ∧
    (r2 ++ e ++ r1 ++ a ++ r0 ++ g ++ b).extractLsb' 11 21 = r2 := by
  refine ⟨?_, ?_, ?_, ?_, ?_, ?_, ?_⟩
  all_goals
    ext k hk
    grind

/-- Settles O37: the register is the concatenation of its fields, and each is read back from it. -/
theorem statusReadPacksFields : Obligations.StatusReadPacksFields := by
  intro s
  obtain ⟨hbusy, heng, hr0, halg, hr1, herr, hr2⟩ :=
    extractLsb'_append_fields 0 s.core.errcode 0 s.core.alg.code 0 s.core.eng.code s.core.busy
  refine ⟨_, rfl, ?_⟩
  rw [statusWord_eq_append]
  refine ⟨hbusy, heng.trans ?_, hr0, halg.trans ?_, hr1, herr, hr2⟩
  · cases s.core.eng <;> rfl
  · cases s.core.alg <;> rfl

end Sys2Proof.Machine

/-! Proofs about the register window (spec/20_memory.md). Which accesses it refuses is read off the register that an
offset names; when the machine stops, off how an operation ends; what the storage writes and the reads do, off the halves
of a register and the byte lanes of a word. -/

namespace Sys2Proof

/-! ### The register at an offset (R52, R53) -/

/-- Each of the window's 256 words holds the register of that offset, or none where the offset is unmapped. -/
theorem map_offset_regAt_word (k : Fin 256) :
    (regAt (4 * k.val)).map Reg.offset = if Machine.unmappedOffset (4 * k.val) then none else some (4 * k.val) := by
  revert k; decide +kernel

theorem map_offset_regAt {offset : Nat} (hlt : offset < 0x400) (halign : offset % 4 = 0) :
    (regAt offset).map Reg.offset = if Machine.unmappedOffset offset then none else some offset := by
  simpa only [Nat.mul_div_cancel' (Nat.dvd_of_mod_eq_zero halign)] using map_offset_regAt_word ⟨offset / 4, by omega⟩

theorem Reg.offset_mapped (r : Reg) : ¬ Machine.unmappedOffset r.offset := by
  have h := map_offset_regAt r.offset_lt r.offset_aligned
  intro hun
  simp [regAt_offset, hun] at h

/-- R54: the write-only registers. -/
theorem readInstr_eq_none {r : Reg} :
    readInstr r = none ↔ r.offset = 0x000 ∨ r.offset = 0x010 ∨ r.offset = 0x014 := by
  cases r <;> simp only [readInstr, Reg.offset]
  case len half | abs half => cases half <;> simp [halfOffset]
  case hexw k => split <;> simp <;> omega
  all_goals simp <;> omega

/-- R54: the read-only registers. -/
theorem writeInstr_eq_none {data : Word32} {r : Reg} :
    writeInstr data r = none ↔ r.offset = 0x004 ∨ (0x018 ≤ r.offset ∧ r.offset ≤ 0x028) ∨
      (0x180 ≤ r.offset ∧ r.offset < 0x1C0) ∨ (0x200 ≤ r.offset ∧ r.offset < 0x380) := by
  cases r <;> simp only [writeInstr, Reg.offset]
  case len half | abs half => cases half <;> simp [halfOffset]
  case h i half => cases half <;> simp [halfOffset] <;> omega
  all_goals simp <;> omega

/-! ### The bus errors in their order (R51, R53, R54, R333) -/

/-- R52: only an access at an offset of 0x400 or more lies outside the window. -/
theorem target_eq_outsideWindow {width offset o : Nat} :
    target width offset = .error (.outsideWindow o) ↔ 0x400 ≤ offset ∧ o = offset := by
  unfold target
  split_ifs with hout
  · simp [hout, eq_comm]
  · simp [hout]
  · simp [hout]
  · split <;> simp [hout]

/-- Everything an access inside the window can reach: the first cause of R333's causes 1 to 3, or a register. -/
theorem target_cases (width : Nat) {offset : Nat} (hlt : offset < 0x400) :
    (width ≠ 32 ∧ target width offset = .error (.bus .width)) ∨
    (width = 32 ∧ offset % 4 ≠ 0 ∧ target width offset = .error (.bus .misaligned)) ∨
    (width = 32 ∧ offset % 4 = 0 ∧ Machine.unmappedOffset offset ∧ target width offset = .error (.bus .unmapped)) ∨
    (width = 32 ∧ ∃ r : Reg, r.offset = offset) := by
  by_cases hwidth : width = 32
  case neg => exact .inl ⟨hwidth, by simp [target, hlt, hwidth]⟩
  subst hwidth
  by_cases halign : offset % 4 = 0
  case neg => exact .inr (.inl ⟨rfl, halign, by simp [target, hlt, halign]⟩)
  have hreg := map_offset_regAt hlt halign
  split_ifs at hreg with hun
  · exact .inr (.inr (.inl ⟨rfl, halign, hun, by simp [target, hlt, halign, Option.map_eq_none_iff.mp hreg]⟩))
  · obtain ⟨r, -, hr⟩ := Option.map_eq_some_iff.mp hreg
    exact .inr (.inr (.inr ⟨rfl, r, hr⟩))

section Accesses

variable {width offset : Nat} {e : Rejection} {r : Reg}

theorem decode_read_of_error (h : target width offset = .error e) :
    decode (.access (.read width offset)) = .error e := by
  simp only [decode, decodeAccess, h]

theorem decode_write_of_error (h : target width offset = .error e) (data : Word32) :
    decode (.access (.write width offset data)) = .error e := by
  simp only [decode, decodeAccess, h]

/-- R54: a read that reaches a register is refused only where the register is write-only. -/
theorem decode_read_eq_error (h : target width offset = .ok r) :
    decode (.access (.read width offset)) = .error e ↔ readInstr r = none ∧ e = .bus .writeOnly := by
  simp only [decode, decodeAccess, h]
  cases readInstr r <;> simp [eq_comm]

/-- R54: a write that reaches a register is refused only where the register is read-only. -/
theorem decode_write_eq_error (h : target width offset = .ok r) {data : Word32} :
    decode (.access (.write width offset data)) = .error e ↔ writeInstr data r = none ∧ e = .bus .readOnly := by
  simp only [decode, decodeAccess, h]
  cases writeInstr data r <;> simp [eq_comm]

end Accesses

/-- Settles O5, by what an access inside the window can reach. -/
theorem busErrorCausesInOrder : Obligations.BusErrorCausesInOrder := by
  intro width offset data hlt
  obtain ⟨hwidth, htarget⟩ | ⟨rfl, halign, htarget⟩ | ⟨rfl, halign, hun, htarget⟩ | ⟨rfl, r, rfl⟩ :=
    target_cases width hlt
  · simp [decode_read_of_error htarget, decode_write_of_error htarget, hwidth]
  · have hwriteOnly : ¬ (offset = 0x000 ∨ offset = 0x010 ∨ offset = 0x014) := by omega
    simp [decode_read_of_error htarget, decode_write_of_error htarget, halign, hwriteOnly]
  · have hwriteOnly : ¬ (offset = 0x000 ∨ offset = 0x010 ∨ offset = 0x014) := by omega
    have hreadOnly : ¬ (offset = 0x004 ∨ (0x018 ≤ offset ∧ offset ≤ 0x028) ∨ (0x180 ≤ offset ∧ offset < 0x1C0) ∨
        (0x200 ≤ offset ∧ offset < 0x380)) := by omega
    simp [decode_read_of_error htarget, decode_write_of_error htarget, halign, hun, hwriteOnly, hreadOnly]
  · simp [decode_read_eq_error (target_offset r), decode_write_eq_error (target_offset r), readInstr_eq_none,
      writeInstr_eq_none, r.offset_aligned, r.offset_mapped]

/-- R52: a host operation that does not reach the core is an access at an offset of 0x400 or more. -/
theorem decode_eq_outsideWindow {o : HostOp} {offset : Nat} (h : decode o = .error (.outsideWindow offset)) :
    0x400 ≤ offset ∧
      ∃ width, o = .access (.read width offset) ∨ ∃ data, o = .access (.write width offset data) := by
  cases o with
  | command cmd =>
    rw [decode] at h
    split at h <;> cases h
  | access a =>
    cases a with
    | read width off =>
      cases htarget : target width off with
      | ok r => cases ((decode_read_eq_error htarget).mp h).2
      | error e =>
        obtain rfl : e = .outsideWindow offset := Except.error.inj ((decode_read_of_error htarget).symm.trans h)
        obtain ⟨hout, rfl⟩ := target_eq_outsideWindow.mp htarget
        exact ⟨hout, width, .inl rfl⟩
    | write width off data =>
      cases htarget : target width off with
      | ok r => cases ((decode_write_eq_error htarget).mp h).2
      | error e =>
        obtain rfl : e = .outsideWindow offset :=
          Except.error.inj ((decode_write_of_error htarget data).symm.trans h)
        obtain ⟨hout, rfl⟩ := target_eq_outsideWindow.mp htarget
        exact ⟨hout, width, .inr ⟨data, rfl⟩⟩

end Sys2Proof

namespace Sys2Proof.Machine

/-! ### How an operation ends -/

section StorageWrites

variable {s : State} (f : CoreState → CoreState)

/-- R57, R375: during a run a storage write is ignored. -/
theorem storageWrite_of_absorb (heng : s.core.eng = .absorb) :
    storageWrite s f = .next { s with response := .written } :=
  if_pos heng

theorem storageWrite_of_not_absorb (heng : s.core.eng ≠ .absorb) :
    storageWrite s f = .next { s with core := f s.core, response := .written } :=
  if_neg heng

theorem storageWrite_eq_finishWrite (s : State) : ∃ c, storageWrite s f = finishWrite s c := by
  unfold storageWrite
  split <;> exact ⟨_, rfl⟩

/-- R59: a storage write whose effect is idempotent and leaves the engine alone may be repeated. -/
theorem storageWrite_idempotent {f : CoreState → CoreState} {t : State} (hf : ∀ c, f (f c) = f c)
    (heng : ∀ c, (f c).eng = c.eng) (h : storageWrite s f = .next t) : storageWrite t f = .next t := by
  obtain ⟨hs, rfl⟩ | ⟨hs, rfl⟩ := storageWrite_next.mp h
  · exact storageWrite_of_absorb f hs
  · rw [storageWrite_of_not_absorb f (by simpa only [heng] using hs)]
    simp only [hf]

end StorageWrites

/-- R56: every read ends as a read. -/
theorem exec_of_isRead {i : Instr} (hi : isRead i = true) (s : State) : ∃ v, exec i s = finishRead s v := by
  cases i <;> simp only [isRead, Bool.false_eq_true] at hi <;> exact ⟨_, rfl⟩

/-- R57, R85: every other operation ends as a write that completed, a rejected command among them. -/
theorem exec_of_not_isRead {i : Instr} (hi : isRead i = false) (s : State) : ∃ c, exec i s = finishWrite s c := by
  cases i <;> simp only [isRead, Bool.true_eq_false] at hi <;> simp only [exec]
  case init alg => unfold execInit; split <;> exact ⟨_, rfl⟩
  case compress => unfold execCompress; split <;> exact ⟨_, rfl⟩
  case pad r => unfold execPad; split_ifs <;> exact ⟨_, rfl⟩
  case start alg => unfold execStart; split <;> exact ⟨_, rfl⟩
  case hexBuf n delim => unfold execHexBuf; split <;> exact ⟨_, rfl⟩
  case wrCmd data => unfold execWrCmd; split <;> exact ⟨_, rfl⟩
  case wrLen half data => exact storageWrite_eq_finishWrite _ s
  case wrH k half data => exact storageWrite_eq_finishWrite _ s
  case wrBufw k data => exact storageWrite_eq_finishWrite _ s
  all_goals exact ⟨_, rfl⟩

theorem exec_completes (i : Instr) (s : State) : ∃ t, exec i s = .next t := by
  cases hi : isRead i with
  | true =>
    obtain ⟨v, hexec⟩ := exec_of_isRead hi s
    exact ⟨_, hexec⟩
  | false =>
    obtain ⟨c, hexec⟩ := exec_of_not_isRead hi s
    exact ⟨_, hexec⟩

/-! ### Steps -/

section Steps

variable {s : State} {rest : List HostMove} {o : HostOp}

theorem step_of_reset (hpending : s.pending = .reset :: rest) : step s = runReset { s with pending := rest } := by
  simp only [step, runStep, hpending]

theorem step_of_idle (hpending : s.pending = []) :
    step s = if s.core.busy = 0 then waitHost s else endBusy s := by
  simp only [step, runStep, hpending]

theorem step_of_op (hpending : s.pending = .op o :: rest) :
    step s = if s.core.busy = 0 then runOp o { s with pending := rest } else endBusy s := by
  simp only [step, runStep, hpending]

theorem runOp_of_ok {i : Instr} (hdecode : decode o = .ok i) (s : State) : runOp o s = exec i s := by
  simp only [runOp, hdecode]

theorem runOp_of_error {cause : Rejection} (hdecode : decode o = .error cause) (s : State) :
    runOp o s = runRejected cause s := by
  simp only [runOp, hdecode]

end Steps

/-- An operation ends in a next state, unless its access does not reach the core (R52). -/
theorem runOp_ends (o : HostOp) (s : State) :
    (∃ t, runOp o s = .next t) ∨
      ∃ offset, decode o = .error (.outsideWindow offset) ∧ runOp o s = .fault (.outsideWindow offset) := by
  cases hdecode : decode o with
  | ok i => exact .inl (runOp_of_ok hdecode s ▸ exec_completes i s)
  | error cause =>
    rw [runOp_of_error hdecode]
    cases cause with
    | command e => exact .inl ⟨_, rfl⟩
    | bus e => exact .inl ⟨_, rfl⟩
    | outsideWindow offset => exact .inr ⟨offset, rfl, rfl⟩

/-- Settles O11: every host move ends in a next state but the access that does not reach the core. -/
theorem stepStopsOnlyOutsideWindow : Obligations.StepStopsOnlyOutsideWindow := by
  intro s
  cases hpending : s.pending with
  | nil =>
    rw [step_of_idle hpending]
    split
    · exact .inl ⟨_, rfl⟩
    · exact .inl ⟨_, rfl⟩
  | cons move rest =>
    cases move with
    | reset => exact .inl ⟨_, step_of_reset hpending⟩
    | op o =>
      rw [step_of_op hpending]
      split
      case isFalse => exact .inl ⟨_, rfl⟩
      obtain hnext | ⟨offset, hdecode, hfault⟩ := runOp_ends o { s with pending := rest }
      · exact .inl hnext
      · obtain ⟨hout, width, rfl | ⟨data, rfl⟩⟩ := decode_eq_outsideWindow hdecode
        · exact .inr ⟨rest, width, offset, hout, .inl rfl, hfault⟩
        · exact .inr ⟨rest, width, offset, hout, .inr ⟨data, rfl⟩, hfault⟩

/-- Settles O6, by what a step does with an operation. -/
theorem stepRunsDecodedOperation : Obligations.StepRunsDecodedOperation := by
  intro s o rest i hbusy hpending hdecode
  rw [step_of_op hpending, if_pos hbusy, runOp_of_ok hdecode]

/-! ### The halves of a register and the lanes of a word (R55, R56, R57) -/

theorem writeHalf_lo (v : Word64) (data : Word32) :
    writeHalf v .lo data = (v >>> 32) <<< 32 ||| data.setWidth 64 := by
  ext k hk
  grind [writeHalf]

theorem writeHalf_hi (v : Word64) (data : Word32) :
    writeHalf v .hi data = data.setWidth 64 <<< 32 ||| (v <<< 32) >>> 32 := by
  ext k hk
  grind [writeHalf]

theorem readHalf_lo (v : Word64) : readHalf v .lo = v.setWidth 32 :=
  (BitVec.setWidth_eq_extractLsb' (by decide)).symm

theorem readHalf_hi (v : Word64) : readHalf v .hi = (v >>> 32).setWidth 32 :=
  BitVec.setWidth_ushiftRight_eq_extractLsb.symm

theorem writeHalf_writeHalf (v : Word64) (half : Half) (data : Word32) :
    writeHalf (writeHalf v half data) half data = writeHalf v half data := by
  cases half
  case lo => simp only [writeHalf, BitVec.extractLsb'_append_eq_left]
  case hi => simp only [writeHalf, BitVec.extractLsb'_append_eq_right]

theorem listByte_lanesOf (data : Word32) {j : Nat} (hj : j < 4) :
    listByte (lanesOf data) j = data.extractLsb' (8 * j) 8 := by
  match j with
  | 0 | 1 | 2 | 3 => rfl

theorem writeBytes_writeBytes {n : Nat} (x : Vector Byte n) (start : Nat) (l : List Byte) :
    writeBytes (writeBytes x start l) start l = writeBytes x start l := by
  refine buf_ext fun k hk => ?_
  simp only [byteAt_writeBytes _ _ _ hk]
  split_ifs <;> rfl

theorem laneWord_eq_append (b0 b1 b2 b3 : Byte) : laneWord b0 b1 b2 b3 = b3 ++ b2 ++ b1 ++ b0 := by
  ext k hk
  grind [laneWord]

/-- R55: byte `4k + j` stands in lane `j`. -/
theorem extractLsb'_lanes (x : Nat → Byte) (k : Nat) {j : Nat} (hj : j < 4) :
    (lanes x k).extractLsb' (8 * j) 8 = x (4 * k + j) := by
  rw [lanes, laneWord_eq_append]
  match j with
  | 0 | 1 | 2 | 3 =>
    ext i hi
    grind

theorem length_serialize (alg : Alg) (h : HFile) : (serialize alg h).length = alg.digestBytes := by
  cases alg <;> simp [serialize, Alg.digestBytes, Alg.stateWords, Alg.wordBits]

/-- R56: the digest bytes are 0 from `DLEN` on. -/
theorem digestByte_eq_ite (c : CoreState) (n : Nat) :
    digestByte c n = if n < c.alg.digestBytes then listByte (serialize c.alg c.h) n else 0 := by
  split_ifs with hn
  · rfl
  · exact listByte_of_ge _ (by rw [length_serialize]; omega)

/-! ### The storage writes (R57, R59) -/

theorem byteAt_setBufWord (k : Fin 32) (data : Word32) (c : CoreState) {n : Nat} (hn : n < 128) :
    byteAt (setBufWord k data c).buf n =
      if 4 * k.val ≤ n ∧ n < 4 * k.val + 4 then data.extractLsb' (8 * (n - 4 * k.val)) 8 else byteAt c.buf n := by
  rw [setBufWord_buf, byteAt_writeBytes _ _ _ hn, length_lanesOf]
  split_ifs with hk
  · exact listByte_lanesOf data (by omega)
  · rfl

theorem setLenHalf_setLenHalf (half : Half) (data : Word32) (c : CoreState) :
    setLenHalf half data (setLenHalf half data c) = setLenHalf half data c := by
  simp [setLenHalf, writeHalf_writeHalf]

theorem setHHalf_setHHalf (k : Fin 8) (half : Half) (data : Word32) (c : CoreState) :
    setHHalf k half data (setHHalf k half data c) = setHHalf k half data c := by
  simp [setHHalf, writeHalf_writeHalf]

theorem setBufWord_setBufWord (k : Fin 32) (data : Word32) (c : CoreState) :
    setBufWord k data (setBufWord k data c) = setBufWord k data c := by
  simp only [setBufWord, writeBytes_writeBytes]

/-- Settles O34: the part written, by half or by lane, outside a run. -/
theorem storageWritesReplaceOnePart : Obligations.StorageWritesReplaceOnePart := by
  intro s data heng
  refine ⟨⟨.written, ?_⟩, ⟨.written, ?_⟩, fun i => ⟨.written, ?_⟩, fun i => ⟨.written, ?_⟩, fun k =>
    ⟨(setBufWord k data s.core).buf, .written, fun n hn => byteAt_setBufWord k data s.core hn, ?_⟩⟩
  · rw [← writeHalf_lo]
    exact storageWrite_of_not_absorb (setLenHalf .lo data) heng
  · rw [← writeHalf_hi]
    exact storageWrite_of_not_absorb (setLenHalf .hi data) heng
  · rw [← writeHalf_lo]
    exact storageWrite_of_not_absorb (setHHalf i .lo data) heng
  · rw [← writeHalf_hi]
    exact storageWrite_of_not_absorb (setHHalf i .hi data) heng
  · rw [setBufWord_buf]
    exact storageWrite_of_not_absorb (setBufWord k data) heng

/-- Settles O35: a storage write is ignored during a run. -/
theorem storageWritesIgnoredDuringRun : Obligations.StorageWritesIgnoredDuringRun := fun _ data heng =>
  ⟨fun half => ⟨_, storageWrite_of_absorb (setLenHalf half data) heng⟩,
    fun i half => ⟨_, storageWrite_of_absorb (setHHalf i half data) heng⟩,
    fun k => ⟨_, storageWrite_of_absorb (setBufWord k data) heng⟩⟩

/-- Settles O36: each of the three effects is idempotent and leaves the engine alone. -/
theorem storageWritesAreIdempotent : Obligations.StorageWritesAreIdempotent := by
  rintro i s t (⟨half, data, rfl⟩ | ⟨k, half, data, rfl⟩ | ⟨k, data, rfl⟩) h
  · exact storageWrite_idempotent (setLenHalf_setLenHalf half data) (setLenHalf_eng · half data) h
  · exact storageWrite_idempotent (setHHalf_setHHalf k half data) (setHHalf_eng · k half data) h
  · exact storageWrite_idempotent (setBufWord_setBufWord k data) (setBufWord_eng · k data) h

/-! ### The reads (R56) -/

/-- Settles O39, by the lanes of the word that each read answers. -/
theorem byteArrayReadsUseLittleEndianLanes : Obligations.ByteArrayReadsUseLittleEndianLanes := by
  refine fun s => ⟨fun k => ⟨_, rfl, fun j hj => extractLsb'_lanes _ k hj⟩, fun k => ⟨_, rfl, fun j hj => ?_⟩,
    fun k => ⟨_, rfl, rfl, fun j hj => extractLsb'_lanes _ k hj⟩⟩
  rw [extractLsb'_lanes _ _ hj, digestByte_eq_ite]

/-- Settles O38, by the half or the zero extension that each read answers. -/
theorem registerReadsReturnValues : Obligations.RegisterReadsReturnValues := by
  intro s
  refine ⟨congrArg (finishRead s) (readHalf_lo _), congrArg (finishRead s) (readHalf_hi _),
    congrArg (finishRead s) (readHalf_lo _), congrArg (finishRead s) (readHalf_hi _),
    congrArg (finishRead s) (BitVec.ofNat_toNat _ _).symm, congrArg (finishRead s) (BitVec.ofNat_toNat _ _).symm,
    congrArg (finishRead s) ?_, fun _ => congrArg (finishRead s) (readHalf_lo _),
    fun _ => congrArg (finishRead s) (readHalf_hi _)⟩
  cases s.core.alg <;> rfl

end Sys2Proof.Machine

/-! Proofs about the encoding (spec/30_encoding.md). `OP` and `SRC` select a command word's row of R84's table, and the
must-be-zero bits of that row say whether the word has its form; the round trips, the partition of the command space and
the agreement of a command with the write of its word to `CMD` are then read off the nine rows. -/

namespace Sys2Proof

/-! ### Fields of a word -/

section WordFields

variable {w n : Nat}

/-- A field of a word, put back at its place, is the word masked to the field. -/
theorem extractLsb'_shiftLeft (x : BitVec w) (start len : Nat) :
    (x.extractLsb' start len).setWidth w <<< start = x &&& (BitVec.allOnes len).setWidth w <<< start := by
  ext k hk
  simp only [BitVec.getElem_and, BitVec.getElem_shiftLeft, BitVec.getElem_setWidth, BitVec.getLsbD_extractLsb',
    BitVec.getLsbD_allOnes]
  grind

/-- A value put at a place of a word is read back from there. -/
theorem shiftLeft_extractLsb' (v : BitVec n) {start : Nat} (h : start + n ≤ w) :
    (v.setWidth w <<< start).extractLsb' start n = v := by
  ext k hk
  simp only [BitVec.getElem_extractLsb', BitVec.getLsbD_shiftLeft, BitVec.getLsbD_setWidth]
  grind

theorem extractLsb'_or_shiftLeft {x : BitVec w} (v : BitVec n) {start : Nat} (h : start + n ≤ w)
    (hx : x.extractLsb' start n = 0) : (x ||| v.setWidth w <<< start).extractLsb' start n = v := by
  rw [BitVec.extractLsb'_or, shiftLeft_extractLsb' v h, hx]
  exact BitVec.zero_or

theorem extractLsb'_eq_zero_iff (x : BitVec w) {start len : Nat} (h : start + len ≤ w) :
    x.extractLsb' start len = 0 ↔ x &&& (BitVec.allOnes len).setWidth w <<< start = 0 := by
  rw [← extractLsb'_shiftLeft]
  constructor
  · intro hzero
    simp [hzero]
  · intro hzero
    rw [← shiftLeft_extractLsb' (x.extractLsb' start len) h, hzero]
    simp

theorem append_eq_zero_iff {m : Nat} (x : BitVec m) (y : BitVec n) : x ++ y = 0 ↔ x = 0 ∧ y = 0 := by
  constructor
  · intro h
    constructor
    · rw [← BitVec.extractLsb'_append_eq_left (a := x) (b := y), h]
      simp
    · rw [← BitVec.extractLsb'_append_eq_right (a := x) (b := y), h]
      simp
  · rintro ⟨rfl, rfl⟩
    exact BitVec.zero_append_zero

theorem and_or_eq_zero_iff (x a b : BitVec w) : x &&& (a ||| b) = 0 ↔ x &&& a = 0 ∧ x &&& b = 0 := by
  rw [BitVec.and_or_distrib_left]
  exact BitVec.or_eq_zero_iff

theorem and_or_and_left (x a b : BitVec w) : x &&& (a ||| b) &&& a = x &&& a := by
  ext k hk
  grind

theorem and_or_and_right (x a b : BitVec w) : x &&& (a ||| b) &&& b = x &&& b := by
  ext k hk
  grind

/-- A value put at a place outside a mask is masked away. -/
theorem shiftLeft_and_eq_zero (v : BitVec n) {start : Nat} {mask : BitVec w}
    (h : (BitVec.allOnes n).setWidth w <<< start &&& mask = 0) : v.setWidth w <<< start &&& mask = 0 := by
  have hself : v.setWidth w <<< start = v.setWidth w <<< start &&& (BitVec.allOnes n).setWidth w <<< start := by
    ext k hk
    simp only [BitVec.getElem_and, BitVec.getElem_shiftLeft, BitVec.getElem_setWidth, BitVec.getLsbD_allOnes]
    grind
  rw [hself, BitVec.and_assoc, h]
  exact BitVec.and_zero

end WordFields

/-! ### The fields of a command word (R82) -/

section CommandFields

variable (cmd : Word32)

theorem toNat_cmdOp : (cmdOp cmd).toNat = cmd.toNat % 16 := by
  simp [cmdOp, BitVec.extractLsb'_toNat]

theorem toNat_cmdAlg : (cmdAlg cmd).toNat = cmd.toNat / 16 % 4 := by
  simp [cmdAlg, BitVec.extractLsb'_toNat, Nat.shiftRight_eq_div_pow]

theorem toNat_cmdSrc : (cmdSrc cmd).toNat = cmd.toNat / 64 % 4 := by
  simp [cmdSrc, BitVec.extractLsb'_toNat, Nat.shiftRight_eq_div_pow]

theorem toNat_cmdCount : (cmdCount cmd).toNat = cmd.toNat / 65536 % 256 := by
  simp [cmdCount, BitVec.extractLsb'_toNat, Nat.shiftRight_eq_div_pow]

theorem cmdOp_shiftLeft : (cmdOp cmd).setWidth 32 <<< 0 = cmd &&& 0xF :=
  extractLsb'_shiftLeft cmd 0 4

theorem cmdAlg_shiftLeft : (cmdAlg cmd).setWidth 32 <<< 4 = cmd &&& 0x30 :=
  extractLsb'_shiftLeft cmd 4 2

theorem cmdSrc_shiftLeft : (cmdSrc cmd).setWidth 32 <<< 6 = cmd &&& 0xC0 :=
  extractLsb'_shiftLeft cmd 6 2

theorem cmdCount_shiftLeft : (cmdCount cmd).setWidth 32 <<< 16 = cmd &&& 0xFF0000 :=
  extractLsb'_shiftLeft cmd 16 8

theorem delimBits_eq_shiftLeft (delim : Bool) : delimBits delim = (BitVec.ofBool delim).setWidth 32 <<< 8 := by
  cases delim <;> rfl

theorem ofBool_cmdDelim : BitVec.ofBool (cmdDelim cmd) = cmd.extractLsb' 8 1 := by
  ext k hk
  obtain rfl : k = 0 := by omega
  simp [cmdDelim]

theorem delimBits_cmdDelim : delimBits (cmdDelim cmd) = cmd &&& 0x100 := by
  rw [delimBits_eq_shiftLeft, ofBool_cmdDelim]
  exact extractLsb'_shiftLeft cmd 8 1

theorem cmdAlg_eq_zero : cmdAlg cmd = 0 ↔ cmd &&& 0x30 = 0 :=
  extractLsb'_eq_zero_iff cmd (by decide)

theorem cmdSrc_eq_zero : cmdSrc cmd = 0 ↔ cmd &&& 0xC0 = 0 :=
  extractLsb'_eq_zero_iff cmd (by decide)

theorem cmdCount_eq_zero : cmdCount cmd = 0 ↔ cmd &&& 0xFF0000 = 0 :=
  extractLsb'_eq_zero_iff cmd (by decide)

theorem cmdDelim_eq_false : cmdDelim cmd = false ↔ cmd &&& 0x100 = 0 := by
  rw [← delimBits_cmdDelim]
  cases cmdDelim cmd <;> decide

theorem cmdRsv_eq_zero : cmdRsv cmd = 0 ↔ cmd &&& 0xFF00FE00 = 0 := by
  have hhi : cmd.extractLsb' 24 8 = 0 ↔ cmd &&& 0xFF000000 = 0 := extractLsb'_eq_zero_iff cmd (by decide)
  have hlo : cmd.extractLsb' 9 7 = 0 ↔ cmd &&& 0xFE00 = 0 := extractLsb'_eq_zero_iff cmd (by decide)
  rw [cmdRsv, append_eq_zero_iff, hhi, hlo]
  exact (and_or_eq_zero_iff cmd 0xFF000000 0xFE00).symm

end CommandFields

/-! ### The must-be-zero bits (R83) -/

section MustBeZero

open Machine

variable {cmd : Word32}

/-- The two readings of R83 agree: field by field, and bit by bit. -/
theorem mustBeZeroBroken_eq_false : mustBeZeroBroken cmd = false ↔ cmd &&& mustBeZeroMask cmd = 0 := by
  unfold mustBeZeroBroken
  split
  case h_4 hop =>
    by_cases hsrc : cmdSrc cmd = 3
    · have hmask : mustBeZeroMask cmd = 0xFF00FE30 := by
        simp [mustBeZeroMask, ← toNat_cmdOp, ← toNat_cmdSrc, hop, hsrc]
      simp only [hmask, hsrc, bne_self_eq_false, Bool.false_and, Bool.or_false, Bool.or_eq_false_iff,
        bne_eq_false_iff_eq, cmdRsv_eq_zero, cmdAlg_eq_zero, ← and_or_eq_zero_iff]
      rfl
    · have hne : (cmdSrc cmd).toNat ≠ 3 := fun h => hsrc (BitVec.eq_of_toNat_eq h)
      have hmask : mustBeZeroMask cmd = 0xFFFFFE30 := by
        simp [mustBeZeroMask, ← toNat_cmdOp, ← toNat_cmdSrc, hop, hne]
      simp only [hmask, bne_iff_ne.mpr hsrc, Bool.true_and, Bool.or_eq_false_iff, bne_eq_false_iff_eq,
        cmdRsv_eq_zero, cmdAlg_eq_zero, cmdCount_eq_zero, ← and_or_eq_zero_iff]
      rfl
  all_goals
    simp only [mustBeZeroMask, ← toNat_cmdOp, Bool.or_eq_false_iff, bne_eq_false_iff_eq, cmdRsv_eq_zero,
      cmdAlg_eq_zero, cmdSrc_eq_zero, cmdDelim_eq_false, cmdCount_eq_zero, ← and_or_eq_zero_iff, *]
    rfl

theorem mustBeZeroBroken_iff : mustBeZeroBroken cmd = true ↔ cmd &&& mustBeZeroMask cmd ≠ 0 := by
  rw [← Bool.not_eq_false, mustBeZeroBroken_eq_false]

/-! ### The row of a command word (R84)

`OP` and `SRC` say which row a word can fit; the row's must-be-zero bits say whether it does. -/

/-- The bits of `OP` and `SRC`. -/
def rowKey (cmd : Word32) : Word32 := cmd &&& 0xCF

theorem rowKey_eq_fields (cmd : Word32) :
    rowKey cmd = (cmdOp cmd).setWidth 32 <<< 0 ||| (cmdSrc cmd).setWidth 32 <<< 6 := by
  rw [cmdOp_shiftLeft, cmdSrc_shiftLeft]
  exact BitVec.and_or_distrib_left (y := 0xF) (z := 0xC0)

@[simp] theorem cmdOp_rowKey (cmd : Word32) : cmdOp (rowKey cmd) = cmdOp cmd := by
  simp only [cmdOp, rowKey, BitVec.extractLsb'_and]
  exact BitVec.and_allOnes

@[simp] theorem cmdSrc_rowKey (cmd : Word32) : cmdSrc (rowKey cmd) = cmdSrc cmd := by
  simp only [cmdSrc, rowKey, BitVec.extractLsb'_and]
  exact BitVec.and_allOnes

@[simp] theorem mustBeZeroMask_rowKey (cmd : Word32) : mustBeZeroMask (rowKey cmd) = mustBeZeroMask cmd := by
  simp only [mustBeZeroMask, ← toNat_cmdOp, ← toNat_cmdSrc, cmdOp_rowKey, cmdSrc_rowKey]

/-- R83, R84: a row's pattern holds its `OP` and `SRC`, and its mask the rest of its must-be-zero bits. -/
theorem cmdForms_masks : ∀ f ∈ cmdForms,
    f.mask = mustBeZeroMask f.pattern ||| 0xCF ∧ rowKey f.pattern = f.pattern ∧
      f.pattern &&& mustBeZeroMask f.pattern = 0 ∧ (cmdOp f.pattern).toNat < 6 := by
  decide

theorem cmdForms_pattern_and_mask : ∀ f ∈ cmdForms, f.pattern &&& f.mask = f.pattern := by
  decide

theorem cmdForms_patterns_nodup : (cmdForms.map CmdForm.pattern).Nodup := by
  decide

/-- R84: a word fits a row when its `OP` and `SRC` are the row's and no must-be-zero bit is set. -/
theorem CmdForm.fits_iff {f : CmdForm} (hf : f ∈ cmdForms) :
    f.fits cmd = true ↔ rowKey cmd = f.pattern ∧ cmd &&& mustBeZeroMask cmd = 0 := by
  obtain ⟨hmask, hkey, hzero, -⟩ := cmdForms_masks f hf
  rw [CmdForm.fits, beq_iff_eq, hmask]
  constructor
  · intro hfit
    have hrow : rowKey cmd = f.pattern := by
      rw [← hkey, ← hfit]
      exact (and_or_and_right cmd _ 0xCF).symm
    refine ⟨hrow, ?_⟩
    rw [← mustBeZeroMask_rowKey, hrow, ← and_or_and_left cmd _ 0xCF, hfit, hzero]
  · rintro ⟨hrow, hclear⟩
    rw [← hrow, mustBeZeroMask_rowKey, BitVec.and_or_distrib_left, hclear]
    exact BitVec.zero_or

/-- R84: a legal `OP` and a `SRC` that set no must-be-zero bit are those of a row. -/
theorem legal_fields_mem_patterns : ∀ (op : BitVec 4) (src : BitVec 2), op.toNat < 6 →
    (op.setWidth 32 <<< 0 ||| src.setWidth 32 <<< 6 : Word32) &&&
        mustBeZeroMask (op.setWidth 32 <<< 0 ||| src.setWidth 32 <<< 6) = 0 →
      op.setWidth 32 <<< 0 ||| src.setWidth 32 <<< 6 ∈ cmdForms.map CmdForm.pattern := by
  decide

theorem rowKey_mem_patterns (hop : (cmdOp cmd).toNat < 6) (hclear : cmd &&& mustBeZeroMask cmd = 0) :
    rowKey cmd ∈ cmdForms.map CmdForm.pattern := by
  rw [rowKey_eq_fields]
  refine legal_fields_mem_patterns _ _ hop ?_
  rw [← rowKey_eq_fields, mustBeZeroMask_rowKey, rowKey, BitVec.and_assoc, BitVec.and_comm 0xCF, ← BitVec.and_assoc,
    hclear]
  exact BitVec.zero_and

theorem cmdOp_lt_of_fits {f : CmdForm} (hf : f ∈ cmdForms) (hfit : f.fits cmd = true) : (cmdOp cmd).toNat < 6 := by
  obtain ⟨-, -, -, hlt⟩ := cmdForms_masks f hf
  rwa [← cmdOp_rowKey, ((CmdForm.fits_iff hf).mp hfit).1]

/-- A word fits one row at most. -/
theorem fits_unique {f g : CmdForm} (hf : f ∈ cmdForms) (hg : g ∈ cmdForms) (hff : f.fits cmd = true)
    (hgf : g.fits cmd = true) : f = g :=
  List.inj_on_of_nodup_map cmdForms_patterns_nodup hf hg
    (((CmdForm.fits_iff hf).mp hff).1.symm.trans ((CmdForm.fits_iff hg).mp hgf).1)

theorem exists_fits_iff :
    (∃ f ∈ cmdForms, f.fits cmd = true) ↔ (cmdOp cmd).toNat < 6 ∧ cmd &&& mustBeZeroMask cmd = 0 := by
  constructor
  · rintro ⟨f, hf, hfit⟩
    exact ⟨cmdOp_lt_of_fits hf hfit, ((CmdForm.fits_iff hf).mp hfit).2⟩
  · rintro ⟨hop, hclear⟩
    obtain ⟨f, hf, hpattern⟩ := List.mem_map.mp (rowKey_mem_patterns hop hclear)
    exact ⟨f, hf, (CmdForm.fits_iff hf).mpr ⟨hpattern.symm, hclear⟩⟩

theorem find?_fits_eq_some {f : CmdForm} (h : cmdForms.find? (·.fits cmd) = some f) :
    f ∈ cmdForms ∧ f.fits cmd = true :=
  ⟨List.mem_of_find?_eq_some h, by simpa using List.find?_some h⟩

/-- R84: what a word decodes to is what the row it fits makes of it. -/
theorem decodeCommand_eq_ok {i : Instr} :
    decodeCommand cmd = .ok i ↔ ∃ f ∈ cmdForms, f.fits cmd = true ∧ f.build cmd = i := by
  constructor
  · intro h
    unfold decodeCommand at h
    split at h
    · cases h
    split at h
    · cases h
    next f hfind =>
      obtain ⟨hf, hfit⟩ := find?_fits_eq_some hfind
      exact ⟨f, hf, hfit, Except.ok.inj h⟩
  · rintro ⟨f, hf, hfit, rfl⟩
    rw [decodeCommand, if_neg (Nat.not_le.mpr (cmdOp_lt_of_fits hf hfit))]
    cases hfind : cmdForms.find? (·.fits cmd) with
    | none => exact absurd hfit (List.find?_eq_none.mp hfind f hf)
    | some g =>
      obtain ⟨hg, hgfit⟩ := find?_fits_eq_some hfind
      rw [fits_unique hf hg hfit hgfit]

/-- R86: the three parts of the command space, and what decoding gives on each. -/
theorem decodeCommand_cases (cmd : Word32) :
    (6 ≤ (cmdOp cmd).toNat ∧ decodeCommand cmd = .error .illegalOp) ∨
    ((cmdOp cmd).toNat < 6 ∧ cmd &&& mustBeZeroMask cmd ≠ 0 ∧ decodeCommand cmd = .error .reservedBits) ∨
    ((cmdOp cmd).toNat < 6 ∧ cmd &&& mustBeZeroMask cmd = 0 ∧ ∃ i, decodeCommand cmd = .ok i) := by
  by_cases hop : 6 ≤ (cmdOp cmd).toNat
  · exact .inl ⟨hop, if_pos hop⟩
  have hlt := Nat.lt_of_not_le hop
  by_cases hclear : cmd &&& mustBeZeroMask cmd = 0
  · obtain ⟨f, hf, hfit⟩ := exists_fits_iff.mpr ⟨hlt, hclear⟩
    exact .inr (.inr ⟨hlt, hclear, f.build cmd, decodeCommand_eq_ok.mpr ⟨f, hf, hfit, rfl⟩⟩)
  · have hnone : cmdForms.find? (·.fits cmd) = none :=
      List.find?_eq_none.mpr fun f hf hfit => hclear (exists_fits_iff.mp ⟨f, hf, hfit⟩).2
    exact .inr (.inl ⟨hlt, hclear, by rw [decodeCommand, if_neg hop, hnone]⟩)

/-- The forms that a word fits have one pattern, and no two rows have the same. -/
theorem length_filter_fits (cmd : Word32) : (cmdForms.filter (·.fits cmd)).length ≤ 1 := by
  have hnodup : ((cmdForms.filter (·.fits cmd)).map CmdForm.pattern).Nodup :=
    cmdForms_patterns_nodup.sublist (List.filter_sublist.map _)
  have hkeys : ∀ p ∈ (cmdForms.filter (·.fits cmd)).map CmdForm.pattern, p = rowKey cmd := by
    intro p hp
    obtain ⟨f, hf, rfl⟩ := List.mem_map.mp hp
    obtain ⟨hmem, hfit⟩ := List.mem_filter.mp hf
    exact ((CmdForm.fits_iff hmem).mp hfit).1.symm
  rw [List.eq_replicate_of_mem hkeys, List.nodup_replicate, List.length_map] at hnodup
  exact hnodup

end MustBeZero

/-- Settles O4, by the three parts of the command space and the rows' distinct patterns. -/
theorem everyCommandWordHasOneForm : Obligations.EveryCommandWordHasOneForm := by
  intro cmd
  rw [← toNat_cmdOp]
  refine ⟨?_, ?_, ?_, length_filter_fits cmd⟩
  all_goals
    obtain ⟨hop, h⟩ | ⟨hop, (hset : _ ≠ 0#32), h⟩ | ⟨hop, hclear, i, h⟩ := decodeCommand_cases cmd
    · simp [h, hop]
    · simp [h, hop, hset]
    · simp [h, hop, hclear]

/-! ### The round trip of a command word -/

/-- R82, R88: the fields that a form reads are all that its pattern leaves out of the word. -/
theorem encode_build {f : CmdForm} (hf : f ∈ cmdForms) {cmd : Word32} (hfit : f.fits cmd = true) :
    encode (f.build cmd) = .command cmd := by
  have hword {mask pattern field : Word32} (hmask : mask ||| field = BitVec.allOnes 32)
      (hpattern : cmd &&& mask = pattern) : pattern ||| cmd &&& field = cmd := by
    rw [← hpattern, ← BitVec.and_or_distrib_left, hmask, BitVec.and_allOnes]
  rw [CmdForm.fits, beq_iff_eq] at hfit
  simp only [cmdForms, List.mem_cons, List.not_mem_nil, or_false] at hf
  rcases hf with rfl | rfl | rfl | rfl | rfl | rfl | rfl | rfl | rfl
  all_goals
    simp only [encode, cmdAlg_shiftLeft, cmdCount_shiftLeft, delimBits_cmdDelim, HostOp.command.injEq]
  case inl | inr.inr.inl => exact (BitVec.and_allOnes.symm.trans hfit).symm
  case inr.inr.inr.inr.inr.inr.inr.inr =>
    rw [BitVec.or_assoc, ← BitVec.and_or_distrib_left]
    exact hword rfl hfit
  all_goals exact hword rfl hfit

/-- A word made of a form's pattern and bits outside its mask has the form. -/
theorem decodeCommand_pattern_or (n : Fin 9) {x : Word32} (hx : x &&& cmdForms[n].mask = 0) :
    decodeCommand (cmdForms[n].pattern ||| x) = .ok (cmdForms[n].build (cmdForms[n].pattern ||| x)) := by
  have hmem : cmdForms[n] ∈ cmdForms := List.getElem_mem _
  refine decodeCommand_eq_ok.mpr ⟨_, hmem, ?_, rfl⟩
  rw [CmdForm.fits, beq_iff_eq, BitVec.and_or_distrib_right, hx, cmdForms_pattern_and_mask _ hmem]
  exact BitVec.or_zero

theorem delimBits_and_eq_zero {mask : Word32} (h : 0x100 &&& mask = 0) (delim : Bool) :
    delimBits delim &&& mask = 0 := by
  cases delim
  · exact BitVec.zero_and
  · exact h

theorem cmdAlg_or_shiftLeft {x : Word32} (hx : cmdAlg x = 0) (alg : BitVec 2) :
    cmdAlg (x ||| alg.setWidth 32 <<< 4) = alg :=
  extractLsb'_or_shiftLeft alg (by decide) hx

theorem cmdCount_or_shiftLeft {x : Word32} (hx : cmdCount x = 0) (r : Byte) :
    cmdCount (x ||| r.setWidth 32 <<< 16) = r :=
  extractLsb'_or_shiftLeft r (by decide) hx

theorem cmdDelim_or (x y : Word32) : cmdDelim (x ||| y) = (cmdDelim x || cmdDelim y) :=
  BitVec.getLsbD_or

/-- R84, R88: a form reads its operands back from where the encoding puts them. -/
theorem decodeCommand_encode {i : Instr} {cmd : Word32} (h : encode i = .command cmd) :
    decodeCommand cmd = .ok i := by
  cases i <;> cases h
  case nop => rfl
  case init alg =>
    refine (decodeCommand_pattern_or 1 (shiftLeft_and_eq_zero (start := 4) alg (by decide))).trans ?_
    exact congrArg (Except.ok ∘ Instr.init) (cmdAlg_or_shiftLeft rfl alg)
  case compress => rfl
  case pad r =>
    refine (decodeCommand_pattern_or 3 (shiftLeft_and_eq_zero (start := 16) r (by decide))).trans ?_
    exact congrArg (Except.ok ∘ Instr.pad) (cmdCount_or_shiftLeft rfl r)
  case start alg =>
    refine (decodeCommand_pattern_or 4 (shiftLeft_and_eq_zero (start := 4) alg (by decide))).trans ?_
    exact congrArg (Except.ok ∘ Instr.start) (cmdAlg_or_shiftLeft rfl alg)
  case hexDigest delim => cases delim <;> rfl
  case hexLe delim => cases delim <;> rfl
  case hexBe delim => cases delim <;> rfl
  case hexBuf n delim =>
    have hmask : (delimBits delim ||| n.setWidth 32 <<< 16) &&& 0xFF00FEFF = 0 := by
      rw [BitVec.and_or_distrib_right, delimBits_and_eq_zero (by decide), shiftLeft_and_eq_zero n (by decide)]
      rfl
    have hcount : cmdCount (0xC5 ||| delimBits delim ||| n.setWidth 32 <<< 16) = n :=
      cmdCount_or_shiftLeft (by cases delim <;> rfl) n
    have hdelim : cmdDelim (0xC5 ||| delimBits delim ||| n.setWidth 32 <<< 16) = delim := by
      have hn : cmdDelim (n.setWidth 32 <<< 16) = false :=
        (cmdDelim_eq_false _).mpr (shiftLeft_and_eq_zero n (by decide))
      rw [cmdDelim_or, hn, Bool.or_false]
      cases delim <;> rfl
    rw [BitVec.or_assoc] at hcount hdelim ⊢
    refine (decodeCommand_pattern_or 8 hmask).trans ?_
    exact congrArg₂ (fun n delim => Except.ok (Instr.hexBuf n delim)) hcount hdelim

/-- R84: the nine rows: the `OP` of each, the `SRC` of the forms of `HEX`, and the operands read from the word. -/
inductive CmdRow (cmd : Word32) : Instr → Prop
  | nop (hop : cmdOp cmd = 0) : CmdRow cmd .nop
  | init (hop : cmdOp cmd = 1) : CmdRow cmd (.init (cmdAlg cmd))
  | compress (hop : cmdOp cmd = 2) : CmdRow cmd .compress
  | pad (hop : cmdOp cmd = 3) : CmdRow cmd (.pad (cmdCount cmd))
  | start (hop : cmdOp cmd = 4) : CmdRow cmd (.start (cmdAlg cmd))
  | hexDigest (hop : cmdOp cmd = 5) (hsrc : cmdSrc cmd = 0) : CmdRow cmd (.hexDigest (cmdDelim cmd))
  | hexLe (hop : cmdOp cmd = 5) (hsrc : cmdSrc cmd = 1) : CmdRow cmd (.hexLe (cmdDelim cmd))
  | hexBe (hop : cmdOp cmd = 5) (hsrc : cmdSrc cmd = 2) : CmdRow cmd (.hexBe (cmdDelim cmd))
  | hexBuf (hop : cmdOp cmd = 5) (hsrc : cmdSrc cmd = 3) : CmdRow cmd (.hexBuf (cmdCount cmd) (cmdDelim cmd))

theorem cmdRow_of_fits {f : CmdForm} (hf : f ∈ cmdForms) {cmd : Word32} (hfit : f.fits cmd = true) :
    CmdRow cmd (f.build cmd) := by
  have hkey := ((CmdForm.fits_iff hf).mp hfit).1
  have hop : cmdOp cmd = cmdOp f.pattern := by rw [← cmdOp_rowKey, hkey]
  have hsrc : cmdSrc cmd = cmdSrc f.pattern := by rw [← cmdSrc_rowKey, hkey]
  clear hkey hfit
  simp only [cmdForms, List.mem_cons, List.not_mem_nil, or_false] at hf
  rcases hf with rfl | rfl | rfl | rfl | rfl | rfl | rfl | rfl | rfl
  · exact .nop hop
  · exact .init hop
  · exact .compress hop
  · exact .pad hop
  · exact .start hop
  · exact .hexDigest hop hsrc
  · exact .hexLe hop hsrc
  · exact .hexBe hop hsrc
  · exact .hexBuf hop hsrc

theorem CmdRow.wellFormed {cmd : Word32} {i : Instr} (h : CmdRow cmd i) : WellFormed i := by
  cases h <;> rfl

/-! ### The round trip of an access (R52) -/

theorem target_eq_ok {width offset : Nat} {r : Reg} (h : target width offset = .ok r) :
    width = 32 ∧ offset = r.offset := by
  by_cases hlt : offset < 0x400
  · obtain ⟨-, hbad⟩ | ⟨-, -, hbad⟩ | ⟨-, -, -, hbad⟩ | ⟨rfl, r', rfl⟩ := target_cases width hlt
    · cases hbad.symm.trans h
    · cases hbad.symm.trans h
    · cases hbad.symm.trans h
    · rw [target_offset] at h
      exact ⟨rfl, congrArg Reg.offset (Except.ok.inj h)⟩
  · rw [target, if_pos (Nat.le_of_not_lt hlt)] at h
    cases h

theorem readInstr_eq_some {r : Reg} {i : Instr} (h : readInstr r = some i) : WellFormed i ∧ encode i = readOf r := by
  cases r with
  | hexw k =>
    rw [readInstr] at h
    split_ifs at h with hk <;> cases h
    · exact ⟨decide_eq_true hk, rfl⟩
    · exact ⟨decide_eq_true (Nat.le_of_not_lt hk), rfl⟩
  | _ => cases h <;> exact ⟨rfl, rfl⟩

theorem writeInstr_eq_some {data : Word32} {r : Reg} {i : Instr} (h : writeInstr data r = some i) :
    WellFormed i ∧ encode i = writeOf r data := by
  cases r <;> cases h <;> exact ⟨rfl, rfl⟩

theorem decode_readOf {r : Reg} {i : Instr} (h : readInstr r = some i) : decode (readOf r) = .ok i := by
  simp only [readOf, decode, decodeAccess, target_offset, h]

theorem decode_writeOf {data : Word32} {r : Reg} {i : Instr} (h : writeInstr data r = some i) :
    decode (writeOf r data) = .ok i := by
  simp only [writeOf, decode, decodeAccess, target_offset, h]

/-- Settles O2: a command by its form, an access by its register. -/
theorem decodeInvertsEncode : Obligations.DecodeInvertsEncode := by
  intro i hwf
  have hcommand {cmd : Word32} (h : encode i = .command cmd) : decode (.command cmd) = .ok i := by
    simp only [decode, decodeCommand_encode h]
  cases i with
  | nop | init | compress | pad | start | hexDigest | hexLe | hexBe | hexBuf => exact hcommand rfl
  | wrCmd | wrLen | wrData8 | wrData32 | wrH | wrBufw => exact decode_writeOf rfl
  | rdStatus | rdLen | rdAbs | rdFill | rdHexlen | rdDlen | rdH | rdBufw | rdDigestw => exact decode_readOf rfl
  | rdHexw k => exact decode_readOf (if_pos (of_decide_eq_true hwf))
  | rdHexwHigh k => exact decode_readOf (if_neg (Nat.not_lt.mpr (of_decide_eq_true hwf)))

theorem encode_of_decodeAccess {a : Access} {i : Instr} (h : decodeAccess a = .ok i) :
    WellFormed i ∧ encode i = .access a := by
  unfold decodeAccess at h
  split at h
  · split at h
    · cases h
    next r htarget =>
      obtain ⟨rfl, rfl⟩ := target_eq_ok htarget
      split at h <;> cases h
      next hread => exact readInstr_eq_some hread
  · split at h
    · cases h
    next r htarget =>
      obtain ⟨rfl, rfl⟩ := target_eq_ok htarget
      split at h <;> cases h
      next hwrite => exact writeInstr_eq_some hwrite

/-- Settles O3: a command by the form it fits, an access by the register it reaches. -/
theorem encodeInvertsDecode : Obligations.EncodeInvertsDecode := by
  intro o i h
  cases o with
  | access a => exact encode_of_decodeAccess h
  | command cmd =>
    rw [decode] at h
    split at h <;> cases h
    next hdecode =>
      obtain ⟨f, hf, hfit, rfl⟩ := decodeCommand_eq_ok.mp hdecode
      exact ⟨(cmdRow_of_fits hf hfit).wellFormed, encode_build hf hfit⟩

/-- Settles O1: each word and access is the encoding of its operation. -/
theorem sampleWordsDecode : Obligations.SampleWordsDecode := by
  have h := decodeInvertsEncode
  exact ⟨h .nop rfl, h (.init 1) rfl, h .compress rfl, h (.pad 56) rfl, h (.start 2) rfl, h (.hexDigest true) rfl,
    h (.hexLe false) rfl, h (.hexBe true) rfl, h (.hexBuf 3 true) rfl, h (.wrLen .hi 7) rfl, h (.wrH 2 .hi 7) rfl,
    h (.wrBufw 31 7) rfl, h (.rdDigestw 15) rfl, h (.rdHexw 63) rfl, h (.rdHexwHigh 95) rfl⟩

end Sys2Proof

namespace Sys2Proof.Machine

/-! ### The write of `CMD` (R85) -/

theorem execute_errcode (cmd : Word32) (c : CoreState) : (execute cmd c).errcode = c.errcode := by
  unfold execute
  split
  case h_2 | h_5 => unfold withAlgField; split <;> simp
  case h_6 => unfold hexEffect; split <;> simp [hexDigestEffect, hexLeEffect, hexBeEffect, hexBufEffect]
  all_goals simp

section RawChecks

variable {cmd : Word32}

theorem badAlgField_iff :
    badAlgField cmd = true ↔ (cmd.toNat % 16 = 1 ∨ cmd.toNat % 16 = 4) ∧ cmd.toNat / 16 % 4 = 3 := by
  simp [badAlgField, BitVec.toNat_eq, toNat_cmdOp, toNat_cmdAlg]

theorem badCountField_iff {alg : Alg} : badCountField cmd alg = true ↔
    (cmd.toNat % 16 = 3 ∧ alg.blockSize ≤ cmd.toNat / 65536 % 256) ∨
      (cmd.toNat % 16 = 5 ∧ cmd.toNat / 64 % 4 = 3 ∧ 128 < cmd.toNat / 65536 % 256) := by
  simp [badCountField, BitVec.toNat_eq, toNat_cmdOp, toNat_cmdSrc, toNat_cmdCount, and_assoc]

theorem badEngState_iff {eng : Eng} :
    badEngState cmd eng = true ↔ (cmd.toNat % 16 = 2 ∨ cmd.toNat % 16 = 3) ∧ eng = .absorb := by
  simp [badEngState, BitVec.toNat_eq, toNat_cmdOp]

/-- R331, R332: the code read off the digits of the word is that of the check that fails first. -/
theorem outcomeCode_eq_rejection (cmd : Word32) (c : CoreState) :
    outcomeCode cmd c.alg c.eng = (rejection cmd c).elim 0 fun e => (errCode e).toNat := by
  simp only [rejection, toNat_cmdOp, mustBeZeroBroken_iff, badAlgField_iff, badCountField_iff, badEngState_iff,
    ite_or, outcomeCode]
  split_ifs <;> rfl

theorem rejection_eq_none_of_outcomeCode {c : CoreState} (h : outcomeCode cmd c.alg c.eng = 0) :
    rejection cmd c = none := by
  rw [outcomeCode_eq_rejection] at h
  cases hrej : rejection cmd c with
  | none => rfl
  | some cause =>
    rw [hrej] at h
    cases cause <;> cases h

end RawChecks

theorem execWrCmd_of_rejection_none {cmd : Word32} {s : State} (h : rejection cmd s.core = none) :
    execWrCmd cmd s = accept s (execute cmd) := by
  simp only [execWrCmd, h]

/-- R85: the checks that are left for a word of a form. -/
theorem execWrCmd_of_form {cmd : Word32} (hop : (cmdOp cmd).toNat < 6) (hclear : cmd &&& mustBeZeroMask cmd = 0)
    (s : State) :
    execWrCmd cmd s =
      if badAlgField cmd then reject s .badAlg
      else if badCountField cmd s.core.alg then reject s .badCount
      else if badEngState cmd s.core.eng then reject s .badState
      else accept s (execute cmd) := by
  have hrej : rejection cmd s.core =
      if badAlgField cmd then some .badAlg
      else if badCountField cmd s.core.alg then some .badCount
      else if badEngState cmd s.core.eng then some .badState
      else none := by
    simp [rejection, Nat.not_le.mpr hop, mustBeZeroBroken_eq_false.mpr hclear]
  rw [execWrCmd, hrej]
  split_ifs <;> rfl

/-- R85: `INIT` and `START` check that their field names an algorithm, and nothing else. -/
theorem execWrCmd_of_algField {cmd : Word32} {effect : Alg → CoreState → CoreState}
    (hop : cmdOp cmd = 1 ∨ cmdOp cmd = 4) (hclear : cmd &&& mustBeZeroMask cmd = 0)
    (hexecute : execute cmd = withAlgField cmd effect) (s : State) :
    execWrCmd cmd s = (Alg.ofCode (cmdAlg cmd)).elim (reject s .badAlg) fun a => accept s (effect a) := by
  have hlt : (cmdOp cmd).toNat < 6 := by obtain hop | hop := hop <;> simp [hop]
  have halg : badAlgField cmd = (cmdAlg cmd == 3) := by obtain hop | hop := hop <;> simp [badAlgField, hop]
  have hcount : badCountField cmd s.core.alg = false := by obtain hop | hop := hop <;> simp [badCountField, hop]
  have heng : badEngState cmd s.core.eng = false := by obtain hop | hop := hop <;> simp [badEngState, hop]
  rw [execWrCmd_of_form hlt hclear, halg, hcount, heng, hexecute]
  cases hcode : Alg.ofCode (cmdAlg cmd) with
  | none => simp [Alg.ofCode_eq_none.mp hcode]
  | some a =>
    have hne : ¬ cmdAlg cmd = 3#2 := fun h => by simp [Alg.ofCode_eq_none.mpr h] at hcode
    simp [hne, accept, withAlgField, hcode]

/-- R84, R85: the meaning of each row, written from its own rule, is the write of the row's words to `CMD`. -/
theorem exec_eq_execWrCmd_of_cmdRow {cmd : Word32} {i : Instr} (hrow : CmdRow cmd i)
    (hclear : cmd &&& mustBeZeroMask cmd = 0) (s : State) : exec i s = execWrCmd cmd s := by
  have hform (hop : (cmdOp cmd).toNat < 6) := execWrCmd_of_form hop hclear s
  simp only [badAlgField, badCountField, badEngState, accept, execute] at hform
  cases hrow with
  | init hop =>
    have hexecute : execute cmd = withAlgField cmd initEffect := by
      funext c
      simp [execute, hop]
    rw [execWrCmd_of_algField (.inl hop) hclear hexecute, exec, execInit]
    cases Alg.ofCode (cmdAlg cmd) <;> rfl
  | start hop =>
    have hexecute : execute cmd = withAlgField cmd startEffect := by
      funext c
      simp [execute, hop]
    rw [execWrCmd_of_algField (.inr hop) hclear hexecute, exec, execStart]
    cases Alg.ofCode (cmdAlg cmd) <;> rfl
  | nop hop => simp [hform, hop, exec, execNop, accept]
  | compress hop => simp [hform, hop, exec, execCompress, accept]
  | pad hop => simp [hform, hop, exec, execPad, accept]
  | hexDigest hop hsrc => simp [hform, hop, hsrc, hexEffect, exec, execHexDigest, accept]
  | hexLe hop hsrc => simp [hform, hop, hsrc, hexEffect, exec, execHexLe, accept]
  | hexBe hop hsrc => simp [hform, hop, hsrc, hexEffect, exec, execHexBe, accept]
  | hexBuf hop hsrc => simp [hform, hop, hsrc, hexEffect, exec, execHexBuf, accept]

/-- R84, R85: a word that decodes to a command, written to `CMD`, ends as the command does. -/
theorem exec_of_decodeCommand {cmd : Word32} {i : Instr} (h : decodeCommand cmd = .ok i) (s : State) :
    exec i s = execWrCmd cmd s := by
  obtain ⟨f, hf, hfit, rfl⟩ := decodeCommand_eq_ok.mp h
  exact exec_eq_execWrCmd_of_cmdRow (cmdRow_of_fits hf hfit) ((CmdForm.fits_iff hf).mp hfit).2 s

/-- R85, R88: a command is the write of its word to `CMD`. -/
theorem runOp_command (cmd : Word32) (s : State) : runOp (.command cmd) s = execWrCmd cmd s := by
  obtain ⟨hop, h⟩ | ⟨hop, hset, h⟩ | ⟨-, -, i, h⟩ := decodeCommand_cases cmd
  · simp [runOp, decode, h, runRejected, execWrCmd, rejection, hop]
  · have hbroken := mustBeZeroBroken_iff.mpr hset
    simp [runOp, decode, h, runRejected, execWrCmd, rejection, Nat.not_le.mpr hop, hbroken]
  · simp [runOp, decode, h, exec_of_decodeCommand h]

/-- Settles O8, by what a command and the write of its word run. -/
theorem stepOnCommandIsWriteOfCmd : Obligations.StepOnCommandIsWriteOfCmd := by
  intro s cmd rest hbusy
  have hwrite : decode (.access (.write 32 0x000 cmd)) = .ok (.wrCmd cmd) := decode_writeOf (r := .cmd) rfl
  rw [step_of_op rfl, step_of_op rfl, if_pos hbusy, if_pos hbusy, runOp_of_ok hwrite, runOp_command]
  rfl

/-- Settles O20: no check fails, and the operation of the word's form is the write of the word. -/
theorem cmdWriteRunsAcceptedCommand : Obligations.CmdWriteRunsAcceptedCommand := by
  intro cmd s i hdecode houtcome
  have haccept : execWrCmd cmd s = accept s (execute cmd) :=
    execWrCmd_of_rejection_none (rejection_eq_none_of_outcomeCode houtcome)
  exact ⟨_, haccept, (exec_of_decodeCommand hdecode s).trans haccept, execute_errcode cmd _⟩

/-- Settles O26: each rejection is the first branch of its command that applies. -/
theorem rejectedFormsChangeOnlyErrcode : Obligations.RejectedFormsChangeOnlyErrcode := fun _ =>
  ⟨⟨.written, rfl⟩, ⟨.written, rfl⟩, fun heng => ⟨.written, if_pos heng⟩, fun _ hn => ⟨.written, if_pos hn⟩,
    fun _ hn heng => ⟨.written, (if_neg (Nat.not_le.mpr hn)).trans (if_pos heng)⟩,
    fun _ _ hn => ⟨.written, if_pos hn⟩⟩

end Sys2Proof.Machine

/-! Proofs about the primitives (spec/40_primitives.md). The bytes of an appended word are the bytes of its parts
(`bytesLe_append`), so a packing is read as an append of its bytes. Read in its byte order, the expansion of a word has
the word's value (`leValue_bytesLe`, `beValue_bytesBe`), so a word is determined by its bytes. -/

namespace Sys2Proof.Machine

/-! ### The rotations and the shift (R112 to R114) -/

section Rotations

variable {w : Nat}

/-- The left shift is reduced; the right shift needs no reduction. -/
theorem toNat_shiftLeft_or_ushiftRight (x : BitVec w) (n k : Nat) :
    (x <<< n ||| x >>> k).toNat = (x.toNat <<< n ||| x.toNat >>> k) % 2 ^ w := by
  have hright : x.toNat >>> k % 2 ^ w = x.toNat >>> k :=
    Nat.mod_eq_of_lt ((Nat.shiftRight_le _ _).trans_lt x.isLt)
  rw [Nat.or_mod_two_pow, hright, BitVec.toNat_or, BitVec.toNat_shiftLeft, BitVec.toNat_ushiftRight]

theorem toNat_rotl (x : BitVec w) (n : Nat) :
    (rotl x n).toNat = if n = 0 then x.toNat else (x.toNat <<< n ||| x.toNat >>> (w - n)) % 2 ^ w := by
  unfold rotl
  split_ifs
  · rfl
  · exact toNat_shiftLeft_or_ushiftRight x n (w - n)

theorem toNat_rotr (x : BitVec w) (n : Nat) :
    (rotr x n).toNat = if n = 0 then x.toNat else (x.toNat >>> n ||| x.toNat <<< (w - n)) % 2 ^ w := by
  unfold rotr
  split_ifs
  · rfl
  · rw [BitVec.or_comm, Nat.or_comm]
    exact toNat_shiftLeft_or_ushiftRight x (w - n) n

theorem toNat_shr (x : BitVec w) (n : Nat) : (shr x n).toNat = x.toNat / 2 ^ n := by
  rw [shr, BitVec.toNat_ushiftRight, Nat.shiftRight_eq_div_pow]

end Rotations

/-- Settles O51, by the value of each operation; none of them needs the amount's bound. -/
theorem rotationsAsNaturals : Obligations.RotationsAsNaturals :=
  fun _ x n _ => ⟨toNat_rotl x n, toNat_rotr x n, toNat_shr x n⟩

/-! ### The value of a byte list -/

theorem foldl_beValue (l : List Byte) (n : Nat) :
    l.foldl (fun n b => n * 256 + b.toNat) n = n * 256 ^ l.length + beValue l := by
  induction l generalizing n with
  | nil => simp [beValue]
  | cons b l ih =>
    rw [beValue, List.foldl_cons, List.foldl_cons, ih, ih (0 * 256 + b.toNat), List.length_cons]
    ring

theorem beValue_append (l l' : List Byte) : beValue (l ++ l') = beValue l * 256 ^ l'.length + beValue l' := by
  rw [beValue, List.foldl_append, foldl_beValue]
  rfl

theorem leValue_append (l l' : List Byte) : leValue (l ++ l') = leValue l + leValue l' * 256 ^ l.length := by
  rw [leValue, List.reverse_append, beValue_append, List.length_reverse, Nat.add_comm]
  rfl

/-! ### The expansion of a word (R118) -/

section Expansion

variable {n m : Nat}

theorem bytesLe_byte (b : Byte) : bytesLe b = [b] := by
  simp [bytesLe]

theorem bytesLe_append (a : BitVec n) (b : BitVec m) (hm : 8 ∣ m) : bytesLe (a ++ b) = bytesLe b ++ bytesLe a := by
  obtain ⟨k, rfl⟩ := hm
  have hlen : (n + 8 * k) / 8 = k + n / 8 := by omega
  rw [bytesLe, hlen, List.range_add, List.map_append, List.map_map, bytesLe, bytesLe,
    Nat.mul_div_cancel_left k (by decide)]
  congr 1
  · refine List.map_congr_left fun t ht => ?_
    have ht : t < k := List.mem_range.mp ht
    ext i hi
    grind
  · refine List.map_congr_left fun t _ => ?_
    ext i hi
    grind

theorem bytesBe_append (a : BitVec n) (b : BitVec m) (hm : 8 ∣ m) : bytesBe (a ++ b) = bytesBe a ++ bytesBe b := by
  rw [bytesBe, bytesLe_append a b hm, List.reverse_append, bytesBe, bytesBe]

/-- The first `k` bytes have the value of the word's low `8 * k` bits. -/
theorem leValue_map_extractLsb' (v : BitVec n) (k : Nat) :
    leValue ((List.range k).map fun t => v.extractLsb' (8 * t) 8) = v.toNat % 2 ^ (8 * k) := by
  induction k with
  | zero => simp [leValue, beValue, Nat.mod_one]
  | succ k ih =>
    have hbyte : leValue [v.extractLsb' (8 * k) 8] = v.toNat / 2 ^ (8 * k) % 2 ^ 8 := by
      simp [leValue, beValue, Nat.shiftRight_eq_div_pow]
    rw [List.range_succ, List.map_append, List.map_singleton, leValue_append, ih, hbyte, List.length_map,
      List.length_range, Nat.mul_add, Nat.pow_add, Nat.mod_mul, show 256 = 2 ^ 8 from rfl, ← Nat.pow_mul,
      Nat.mul_comm (2 ^ (8 * k))]

theorem leValue_bytesLe (v : BitVec n) (hn : 8 ∣ n) : leValue (bytesLe v) = v.toNat := by
  rw [bytesLe, leValue_map_extractLsb', Nat.mul_div_cancel' hn, Nat.mod_eq_of_lt v.isLt]

theorem beValue_bytesBe (v : BitVec n) (hn : 8 ∣ n) : beValue (bytesBe v) = v.toNat :=
  leValue_bytesLe v hn

theorem bytesLe_inj {v v' : BitVec n} (hn : 8 ∣ n) (h : bytesLe v = bytesLe v') : v = v' :=
  BitVec.eq_of_toNat_eq (by rw [← leValue_bytesLe v hn, h, leValue_bytesLe v' hn])

theorem bytesBe_inj {v v' : BitVec n} (hn : 8 ∣ n) (h : bytesBe v = bytesBe v') : v = v' :=
  bytesLe_inj hn (List.reverse_injective h)

end Expansion

/-! ### The packing of bytes (R115 to R117) -/

section Packing

variable (x : Nat → Byte) (j : Nat)

theorem packLe32_eq_append : packLe32 x j = x (4 * j + 3) ++ x (4 * j + 2) ++ x (4 * j + 1) ++ x (4 * j) :=
  laneWord_eq_append _ _ _ _

theorem packBe32_eq_append : packBe32 x j = x (4 * j) ++ x (4 * j + 1) ++ x (4 * j + 2) ++ x (4 * j + 3) := by
  ext k hk
  grind [packBe32]

/-- R117: the high half of a 64-bit packing is the packing of the first four bytes, the low half of the last four. -/
theorem packBe64_eq_append : packBe64 x j = packBe32 x (2 * j) ++ packBe32 x (2 * j + 1) := by
  ext k hk
  rw [BitVec.getElem_append]
  simp only [packBe64, packBe32, BitVec.getElem_or, BitVec.getElem_shiftLeft, BitVec.getElem_setWidth]
  grind

theorem bytesLe_packLe32 : bytesLe (packLe32 x j) = [x (4 * j), x (4 * j + 1), x (4 * j + 2), x (4 * j + 3)] := by
  rw [packLe32_eq_append]
  calc bytesLe (x (4 * j + 3) ++ x (4 * j + 2) ++ x (4 * j + 1) ++ x (4 * j))
    _ = bytesLe (x (4 * j)) ++ (bytesLe (x (4 * j + 1)) ++ (bytesLe (x (4 * j + 2)) ++ bytesLe (x (4 * j + 3)))) := by
      rw [bytesLe_append _ _ (by decide), bytesLe_append _ _ (by decide), bytesLe_append _ _ (by decide)]
    _ = _ := by simp [bytesLe_byte]

theorem bytesBe_packBe32 : bytesBe (packBe32 x j) = [x (4 * j), x (4 * j + 1), x (4 * j + 2), x (4 * j + 3)] := by
  rw [packBe32_eq_append]
  calc bytesBe (x (4 * j) ++ x (4 * j + 1) ++ x (4 * j + 2) ++ x (4 * j + 3))
    _ = bytesBe (x (4 * j)) ++ bytesBe (x (4 * j + 1)) ++ bytesBe (x (4 * j + 2)) ++ bytesBe (x (4 * j + 3)) := by
      rw [bytesBe_append _ _ (by decide), bytesBe_append _ _ (by decide), bytesBe_append _ _ (by decide)]
    _ = _ := by simp [bytesBe, bytesLe_byte]

theorem bytesBe_packBe64 :
    bytesBe (packBe64 x j) = [x (8 * j), x (8 * j + 1), x (8 * j + 2), x (8 * j + 3),
      x (8 * j + 4), x (8 * j + 5), x (8 * j + 6), x (8 * j + 7)] := by
  rw [packBe64_eq_append]
  refine (bytesBe_append (packBe32 x (2 * j)) (packBe32 x (2 * j + 1)) (by decide)).trans ?_
  rw [bytesBe_packBe32, bytesBe_packBe32, Nat.mul_add, ← Nat.mul_assoc]
  rfl

end Packing

theorem packLe32_bytesLe (v : Word32) : packLe32 (listByte (bytesLe v)) 0 = v :=
  bytesLe_inj (by decide) (bytesLe_packLe32 _ _)

theorem packBe32_bytesBe (v : Word32) : packBe32 (listByte (bytesBe v)) 0 = v :=
  bytesBe_inj (by decide) (bytesBe_packBe32 _ _)

theorem packBe64_bytesBe (v : Word64) : packBe64 (listByte (bytesBe v)) 0 = v :=
  bytesBe_inj (by decide) (bytesBe_packBe64 _ _)

/-- Settles O52: a packing is an append of bytes, and a word is determined by its bytes. -/
theorem packingInvertsExpansion : Obligations.PackingInvertsExpansion :=
  ⟨fun x j => ⟨bytesLe_packLe32 x j, bytesBe_packBe32 x j, bytesBe_packBe64 x j⟩,
    fun v => ⟨packLe32_bytesLe v, packBe32_bytesBe v⟩, packBe64_bytesBe⟩

/-! ### The length field (R120) -/

/-- R120: the high eight bytes hold what the low eight lose of the bit count. -/
theorem beValue_lenField_sha512 (len : Word64) : beValue (lenField .sha512 len) = 8 * len.toNat := by
  have hhigh : (len >>> 61).toNat = 8 * len.toNat / 2 ^ 64 := by
    rw [BitVec.toNat_ushiftRight, Nat.shiftRight_eq_div_pow]
    omega
  have hlow : (8 * len).toNat = 8 * len.toNat % 2 ^ 64 := BitVec.toNat_mul 8 len
  rw [lenField, beValue_append, beValue_bytesBe _ (by decide), beValue_bytesBe _ (by decide), hhigh, hlow,
    length_bytesBe]
  omega

/-- Settles O53: a field has the value of the word it expands. -/
theorem lengthFieldHoldsBitCount : Obligations.LengthFieldHoldsBitCount := fun len =>
  have hvalue : (8 * len).toNat = 8 * len.toNat % 2 ^ 64 := BitVec.toNat_mul 8 len
  ⟨length_lenField .md5 len, (leValue_bytesLe _ (by decide)).trans hvalue,
    length_lenField .sha256 len, (beValue_bytesBe _ (by decide)).trans hvalue,
    length_lenField .sha512 len, beValue_lenField_sha512 len⟩

/-! ### The digest (R119) -/

theorem listByte_bytesLe {w : Nat} (v : BitVec w) {k : Nat} (hk : k < w / 8) :
    listByte (bytesLe v) k = v.extractLsb' (8 * k) 8 := by
  rw [listByte_of_lt _ (by rwa [length_bytesLe])]
  simp [bytesLe]

theorem listByte_bytesBe {w : Nat} (v : BitVec w) {k : Nat} (hk : k < w / 8) :
    listByte (bytesBe v) k = v.extractLsb' (8 * (w / 8 - 1 - k)) 8 := by
  rw [listByte_of_lt _ (by rwa [length_bytesBe])]
  simp [bytesBe, bytesLe]

/-- R119: the upper halves of `H` take no part. -/
theorem extractLsb'_hLow (h : HFile) (i : Nat) {j : Nat} (hj : j < 4) :
    (hLow h i).extractLsb' (8 * j) 8 = (hReg h i).extractLsb' (8 * j) 8 := by
  ext k hk
  grind [hLow]

/-- In a concatenation of pieces of `n` bytes, byte `n * i + j` is byte `j` of piece `i`. -/
theorem listByte_flatMap_range {f : Nat → List Byte} {n m i j : Nat} (hf : ∀ k, (f k).length = n) (hi : i < m)
    (hj : j < n) : listByte ((List.range m).flatMap f) (n * i + j) = listByte (f i) j := by
  have hlen : ∀ m, ((List.range m).flatMap f).length = n * m := by simp [List.length_flatMap, hf, Nat.mul_comm]
  induction m with
  | zero => omega
  | succ m ih =>
    rw [List.range_succ, List.flatMap_append, List.flatMap_singleton, listByte]
    obtain hi | rfl := Nat.lt_succ_iff_lt_or_eq.mp hi
    · have hpiece : n * i + n ≤ n * m := Nat.mul_le_mul_left n hi
      have hlt : n * i + j < n * m := by omega
      rw [List.getD_append _ _ _ _ (by rwa [hlen])]
      exact ih hi
    · rw [List.getD_append_right _ _ _ _ (by rw [hlen]; omega), hlen, Nat.add_sub_cancel_left]
      rfl

/-- R119: MD5's digest is its state's words, least significant byte first. -/
theorem serialize_md5_eq_stateBytes (h : HFile) : serialize .md5 h = stateBytes .md5 .le h := by
  simp [serialize, stateBytes, bytesOf, List.range_succ]

/-- R119: the other digests are their state's words, most significant byte first. -/
theorem serialize_eq_stateBytes_be {alg : Alg} (halg : alg ≠ .md5) (h : HFile) :
    serialize alg h = stateBytes alg .be h := by
  cases alg with
  | md5 => contradiction
  | sha256 | sha512 => simp [serialize, stateBytes, bytesOf, List.range_succ]

section Digest

variable (h : HFile) {i j : Nat}

theorem listByte_serialize_md5 (hi : i < 4) (hj : j < 4) :
    listByte (serialize .md5 h) (4 * i + j) = (hReg h i).extractLsb' (8 * j) 8 := by
  rw [serialize_md5_eq_stateBytes]
  calc listByte (stateBytes .md5 .le h) (4 * i + j)
    _ = listByte (bytesLe (hLow h i)) j := listByte_flatMap_range (fun _ => length_bytesOf .le _) hi hj
    _ = (hLow h i).extractLsb' (8 * j) 8 := listByte_bytesLe _ hj
    _ = _ := extractLsb'_hLow h i hj

theorem listByte_serialize_sha256 (hi : i < 8) (hj : j < 4) :
    listByte (serialize .sha256 h) (4 * i + j) = (hReg h i).extractLsb' (8 * (3 - j)) 8 := by
  rw [serialize_eq_stateBytes_be (by decide)]
  calc listByte (stateBytes .sha256 .be h) (4 * i + j)
    _ = listByte (bytesBe (hLow h i)) j := listByte_flatMap_range (fun _ => length_bytesOf .be _) hi hj
    _ = (hLow h i).extractLsb' (8 * (3 - j)) 8 := listByte_bytesBe _ hj
    _ = _ := extractLsb'_hLow h i (by omega)

theorem listByte_serialize_sha512 (hi : i < 8) (hj : j < 8) :
    listByte (serialize .sha512 h) (8 * i + j) = (hReg h i).extractLsb' (8 * (7 - j)) 8 := by
  rw [serialize_eq_stateBytes_be (by decide)]
  calc listByte (stateBytes .sha512 .be h) (8 * i + j)
    _ = listByte (bytesBe (hReg h i)) j := listByte_flatMap_range (fun _ => length_bytesOf .be _) hi hj
    _ = _ := listByte_bytesBe _ hj

end Digest

/-- Settles O33, word by word of the state. -/
theorem digestBytesAreStateBits : Obligations.DigestBytesAreStateBits := fun h =>
  ⟨length_serialize .md5 h, length_serialize .sha256 h, length_serialize .sha512 h,
    fun _ hi _ hj => listByte_serialize_md5 h hi hj, fun _ hi _ hj => listByte_serialize_sha256 h hi hj,
    fun _ hi _ hj => listByte_serialize_sha512 h hi hj⟩

end Sys2Proof.Machine

/-! Proofs about the MD5 compression function (spec/41_md5.md). The model's functions of a round number go by its
quarter `i / 16`; `quarter_cases` turns each of them into bounds on `i`. The rounds are a fold over `0 .. 63`, and
`md5VarsAfter` names the working variables along it. -/

namespace Sys2Proof.Machine

/-! ### The quarters of a round number (R142 to R144) -/

section Quarters

variable {i : Nat}

theorem quarter_cases (hi : i < 64) :
    (i / 16 = 0 ∧ i < 16) ∨ (i / 16 = 1 ∧ ¬i < 16 ∧ i < 32) ∨ (i / 16 = 2 ∧ ¬i < 16 ∧ ¬i < 32 ∧ i < 48) ∨
      (i / 16 = 3 ∧ ¬i < 16 ∧ ¬i < 32 ∧ ¬i < 48) := by
  omega

/-- A function of the quarter takes one of four values, by the bounds of the quarters. -/
theorem apply_quarter {α : Type} (f : Nat → α) (hi : i < 64) :
    f (i / 16) = if i < 16 then f 0 else if i < 32 then f 1 else if i < 48 then f 2 else f 3 := by
  obtain ⟨hq, h⟩ | ⟨hq, h⟩ | ⟨hq, h⟩ | ⟨hq, h⟩ := quarter_cases hi <;> simp only [hq, h, if_true, if_false]

/-- R143: the message index; here the round number itself stands in each quarter's formula. -/
theorem md5Index_eq_ite (hi : i < 64) :
    md5Index i =
      if i < 16 then i else if i < 32 then (5 * i + 1) % 16 else if i < 48 then (3 * i + 5) % 16 else 7 * i % 16 := by
  obtain ⟨hq, h⟩ | ⟨hq, h⟩ | ⟨hq, h⟩ | ⟨hq, h⟩ := quarter_cases hi <;> simp only [md5Index, hq, h, if_true, if_false]

end Quarters

/-- Settles O54: the mixing function and the row of rotation amounts are functions of the quarter. -/
theorem md5RoundByQuarter : Obligations.Md5RoundByQuarter := by
  intro m v i hi
  rw [md5Round, apply_quarter (md5Mix · v.b v.c v.d) hi, md5Index_eq_ite hi, md5Shift,
    apply_quarter (md5Shifts.getD · []) hi]
  rfl

/-! ### The 64 rounds (R141, R146 to R148) -/

/-- R141: the sixteen message words are the little-endian words of the block. -/
theorem getD_md5Words (buf : Buf) {j : Nat} (hj : j < 16) : (md5Words buf).getD j 0 = packLe32 (byteAt buf) j := by
  simp [md5Words, hj]

/-- R146: the working variables after the rounds `0 .. n−1`. -/
def md5VarsAfter (m : List Word32) (v : Md5Vars) (n : Nat) : Md5Vars := (List.range n).foldl (md5Round m) v

section Rounds

variable (m : List Word32) (v : Md5Vars)

theorem md5VarsAfter_zero : md5VarsAfter m v 0 = v := rfl

theorem md5VarsAfter_succ (n : Nat) : md5VarsAfter m v (n + 1) = md5Round m (md5VarsAfter m v n) n := by
  simp only [md5VarsAfter, List.range_succ, List.foldl_append, List.foldl_cons, List.foldl_nil]

theorem md5Rounds_eq_md5VarsAfter : md5Rounds m v = md5VarsAfter m v 64 := rfl

end Rounds

/-- Settles O55, with the block's words and the working variables along the fold of the rounds. -/
theorem md5CompressRunsSixtyFourRounds : Obligations.Md5CompressRunsSixtyFourRounds := by
  intro h buf
  refine ⟨md5Words buf, md5VarsAfter (md5Words buf) (md5Start h), ?_, fun j hj => getD_md5Words buf hj,
    md5VarsAfter_zero _ _, fun i _ => md5VarsAfter_succ _ _ i, ?_⟩
  · rw [md5Words, List.length_map, List.length_range]
  · rw [md5Compress, md5Rounds_eq_md5VarsAfter, md5Finish]

end Sys2Proof.Machine

/-! Proofs about the SHA compression functions (spec/42_sha.md). The schedules only grow, so a word read from a longer
one is the word that was appended (`getD_shaSchedule_recurrence`). The working variables along the rounds are
`shaRounds` at each number of rounds. The constants are compared with the integer roots of the scaled primes
(`rootBits`), each table as one list. The lemmas are over the word width; each algorithm is an instance. -/

namespace Sys2Proof.Machine

/-! ### The message schedules (R174, R175) -/

section Schedule

variable {w : Nat} (p : ShaFns w) (block : List (BitVec w)) {i m n : Nat}

theorem length_shaSchedule (n : Nat) : (shaSchedule p block n).length = block.length + n := by
  induction n with
  | zero => rfl
  | succ n ih => rw [shaSchedule, shaExtend, List.length_append, ih, List.length_singleton, Nat.add_assoc]

theorem shaSchedule_prefix (hmn : m ≤ n) : shaSchedule p block m <+: shaSchedule p block n := by
  induction n, hmn using Nat.le_induction with
  | base => exact List.prefix_rfl
  | succ n _ ih => exact ih.trans (List.prefix_append _ _)

/-- R175: a word once in the schedule stays there. -/
theorem getD_shaSchedule_of_le (hmn : m ≤ n) (hi : i < block.length + m) :
    (shaSchedule p block n).getD i 0 = (shaSchedule p block m).getD i 0 := by
  obtain ⟨later, hlater⟩ := shaSchedule_prefix p block hmn
  rw [← hlater, List.getD_append _ _ _ _ (by rwa [length_shaSchedule])]

/-- R174: the first sixteen words are the block's. -/
theorem getD_shaSchedule_block (f : Nat → BitVec w) (n : Nat) {j : Nat} (hj : j < 16) :
    (shaSchedule p ((List.range 16).map f) n).getD j 0 = f j := by
  rw [getD_shaSchedule_of_le p _ n.zero_le (by simpa using hj), shaSchedule]
  simp [hj]

/-- R175: the next word depends on the words before it only. -/
theorem shaNextWord_congr {ws ws' : List (BitVec w)} (hi : 0 < i) (h : ∀ j < i, ws.getD j 0 = ws'.getD j 0) :
    shaNextWord p ws i = shaNextWord p ws' i := by
  rw [shaNextWord, h _ (by omega), h _ (by omega), h _ (by omega), h _ (by omega), shaNextWord]

/-- R175: the recurrence, read from the finished schedule. -/
theorem getD_shaSchedule_recurrence (hblock : block.length = 16) (h16 : 16 ≤ i) (hi : i < 16 + n) :
    (shaSchedule p block n).getD i 0 = shaNextWord p (shaSchedule p block n) i := by
  obtain ⟨m, rfl⟩ := Nat.exists_eq_add_of_le h16
  have hlen : (shaSchedule p block m).length = 16 + m := by rw [length_shaSchedule, hblock]
  calc (shaSchedule p block n).getD (16 + m) 0
    _ = (shaSchedule p block (m + 1)).getD (16 + m) 0 := getD_shaSchedule_of_le p block (by omega) (by omega)
    _ = shaNextWord p (shaSchedule p block m) (16 + m) := by
      rw [shaSchedule, shaExtend, List.getD_append_right _ _ _ _ hlen.le, hlen, Nat.sub_self]
      rfl
    _ = shaNextWord p (shaSchedule p block n) (16 + m) :=
      shaNextWord_congr p (by omega) fun j hj => (getD_shaSchedule_of_le p block (by omega) (by omega)).symm

end Schedule

/-- Settles O56: the recurrence over each algorithm's sigma functions, from a block of sixteen words. -/
theorem shaSchedulesFollowRecurrence : Obligations.ShaSchedulesFollowRecurrence := by
  intro buf
  refine ⟨length_shaSchedule _ _ 48, fun j hj => getD_shaSchedule_block _ _ _ hj, ?_,
    length_shaSchedule _ _ 64, fun j hj => getD_shaSchedule_block _ _ _ hj, ?_⟩
  · intro i h16 hi x y hx hy
    rw [hx, hy]
    exact getD_shaSchedule_recurrence fns256 _ rfl h16 hi
  · intro i h16 hi x y hx hy
    rw [hx, hy]
    exact getD_shaSchedule_recurrence fns512 _ rfl h16 hi

/-! ### The rounds (R176 to R180) -/

section Rounds

variable {w : Nat} (p : ShaFns w) (ws : List (BitVec w)) (v : ShaVars w)

theorem shaRounds_zero : shaRounds p ws 0 v = v := rfl

theorem shaRounds_succ (n : Nat) : shaRounds p ws (n + 1) v = shaRound p ws (shaRounds p ws n v) n := by
  simp only [shaRounds, List.range_succ, List.foldl_append, List.foldl_cons, List.foldl_nil]

end Rounds

/-- Settles O57, with the working variables after each number of rounds. -/
theorem sha256CompressRunsSixtyFourRounds : Obligations.Sha256CompressRunsSixtyFourRounds := by
  intro h buf
  refine ⟨fun n => shaRounds fns256 (schedule256 buf) n (start256 h), shaRounds_zero _ _ _,
    fun i _ => ⟨_, _, rfl, rfl, shaRounds_succ _ _ _ i⟩, ?_⟩
  rw [sha256Compress, Alg.rounds, finish256]

/-- Settles O58, with the working variables after each number of rounds. -/
theorem sha512CompressRunsEightyRounds : Obligations.Sha512CompressRunsEightyRounds := by
  intro h buf
  refine ⟨fun n => shaRounds fns512 (schedule512 buf) n (start512 h), shaRounds_zero _ _ _,
    fun i _ => ⟨_, _, rfl, rfl, shaRounds_succ _ _ _ i⟩, ?_⟩
  rw [sha512Compress, Alg.rounds, finish512]

/-! ### The constants (R170 to R173) -/

/-- The first `b` bits of the fractional part of the `n`-th root of `a`. -/
def rootBits (n b a : Nat) : Nat := Nat.nthRoot n (a * 2 ^ (n * b)) % 2 ^ b

/-- `rootBits` reduces the integer root of the scaled number. -/
theorem exists_root_mod_eq_rootBits {n : Nat} (hn : n ≠ 0) (b a : Nat) :
    ∃ x, x ^ n ≤ a * 2 ^ (n * b) ∧ a * 2 ^ (n * b) < (x + 1) ^ n ∧ rootBits n b a = x % 2 ^ b :=
  ⟨Nat.nthRoot n (a * 2 ^ (n * b)), Nat.pow_nthRoot_le (.inl hn), Nat.lt_pow_nthRoot_add_one hn _, rfl⟩

/-- A table equal to the list of the root bits of `l` holds the bits of one root at each index. -/
theorem exists_root_of_map_eq {n : Nat} (hn : n ≠ 0) {b N : Nat} {word : Nat → Nat} {l : List Nat}
    (h : (List.range N).map word = (l.take N).map (rootBits n b)) :
    ∀ i < N, ∃ x, x ^ n ≤ l.getD i 0 * 2 ^ (n * b) ∧ l.getD i 0 * 2 ^ (n * b) < (x + 1) ^ n ∧ word i = x % 2 ^ b := by
  intro i hi
  have hlen : N ≤ l.length := by simpa using congrArg List.length h
  have hword : word i = rootBits n b (l.getD i 0) := by
    rw [List.getD_eq_getElem _ _ (hi.trans_le hlen)]
    simpa [hi, hi.trans_le hlen] using congrArg (·[i]?) h
  rw [hword]
  exact exists_root_mod_eq_rootBits hn b _

/-- The trial divisions, computed once for the four tables. -/
theorem primesBelow_410 : primesBelow 410 =
    [2, 3, 5, 7, 11, 13, 17, 19, 23, 29, 31, 37, 41, 43, 47, 53, 59, 61, 67, 71, 73, 79, 83, 89, 97, 101, 103, 107,
      109, 113, 127, 131, 137, 139, 149, 151, 157, 163, 167, 173, 179, 181, 191, 193, 197, 199, 211, 223, 227, 229,
      233, 239, 241, 251, 257, 263, 269, 271, 277, 281, 283, 293, 307, 311, 313, 317, 331, 337, 347, 349, 353, 359,
      367, 373, 379, 383, 389, 397, 401, 409] := by decide +kernel

/-- R172: SHA-256's round constants. -/
theorem k256_eq_cubeRootBits : (List.range 64).map (fun i => (k256.getD i 0).toNat) =
    ((primesBelow 410).take 64).map (rootBits 3 32) := by
  rw [primesBelow_410]
  decide +kernel

/-- R173: SHA-512's round constants. -/
theorem k512_eq_cubeRootBits : (List.range 80).map (fun i => (k512.getD i 0).toNat) =
    ((primesBelow 410).take 80).map (rootBits 3 64) := by
  rw [primesBelow_410]
  decide +kernel

/-- R170: SHA-256's initial value. -/
theorem iv256_eq_squareRootBits : (List.range 8).map (fun i => (hReg iv256 i).toNat) =
    ((primesBelow 410).take 8).map (rootBits 2 32) := by
  rw [primesBelow_410]
  decide +kernel

/-- R171: SHA-512's initial value. -/
theorem iv512_eq_squareRootBits : (List.range 8).map (fun i => (hReg iv512 i).toNat) =
    ((primesBelow 410).take 8).map (rootBits 2 64) := by
  rw [primesBelow_410]
  decide +kernel

/-- Settles O59, table by table. -/
theorem shaConstantsAreRootsOfPrimes : Obligations.ShaConstantsAreRootsOfPrimes :=
  ⟨rfl, rfl, exists_root_of_map_eq (by decide) k256_eq_cubeRootBits,
    exists_root_of_map_eq (by decide) k512_eq_cubeRootBits, exists_root_of_map_eq (by decide) iv256_eq_squareRootBits,
    exists_root_of_map_eq (by decide) iv512_eq_squareRootBits⟩

end Sys2Proof.Machine

/-! Proofs about the padding machine (spec/43_padding.md). The bytes of each padding block are said once; the two claims
about `PAD` are the two cases of `pad`, the machine of sub-states is run for its four transitions, and the length of the
padded message is what R215's zeros leave to a whole number of blocks. -/

namespace Sys2Proof

/-! ### The parameters (R210) -/

theorem Alg.threshold_eq (alg : Alg) :
    alg.threshold = match alg with | .md5 => 55 | .sha256 => 55 | .sha512 => 111 := by
  cases alg <;> rfl

/-- R210: the mark and the length field take the block's bytes beyond the longest tail of one block. -/
theorem Alg.threshold_add_lenFieldBytes (alg : Alg) : alg.threshold + 1 + alg.lenFieldBytes = alg.blockSize := by
  cases alg <;> rfl

end Sys2Proof

namespace Sys2Proof.Machine

/-! ### The bytes of the padding blocks (R211) -/

section PaddingBlocks

variable {alg : Alg} {r k : Nat} (len : Word64) (buf : Buf) (hk : k < 128)
include hk

theorem byteAt_putLenField : byteAt (putLenField alg len buf) k =
    if alg.blockSize - alg.lenFieldBytes ≤ k ∧ k < alg.blockSize then
      listByte (lenField alg len) (k - (alg.blockSize - alg.lenFieldBytes))
    else byteAt buf k := by
  have hfield := alg.threshold_add_lenFieldBytes
  rw [putLenField, byteAt_writeBytes _ _ _ hk, length_lenField, Nat.sub_add_cancel (by omega)]

/-- R211, `r ≤ THR`: the tail, the mark, zeros, the length field, and the bytes beyond the block. -/
theorem byteAt_oneBlock (hr : r ≤ alg.threshold) : byteAt (oneBlock alg len r buf) k =
    if k < r then byteAt buf k
    else if k = r then 0x80
    else if k < alg.blockSize - alg.lenFieldBytes then 0
    else if k < alg.blockSize then listByte (lenField alg len) (k - (alg.blockSize - alg.lenFieldBytes))
    else byteAt buf k := by
  have hfield := alg.threshold_add_lenFieldBytes
  rw [oneBlock, byteAt_putLenField _ _ hk, byteAt_fillBytes _ _ _ _ hk, byteAt_setByte _ _ _ hk]
  grind

/-- R211, `THR < r`: the tail, the mark, zeros, and the bytes beyond the block. -/
theorem byteAt_firstBlock : byteAt (firstBlock alg r buf) k =
    if k < r then byteAt buf k
    else if k = r then 0x80
    else if k < alg.blockSize then 0
    else byteAt buf k := by
  rw [firstBlock, byteAt_fillBytes _ _ _ _ hk, byteAt_setByte _ _ _ hk]
  grind

/-- R211, `THR < r`: zeros, the length field, and the bytes beyond the block. -/
theorem byteAt_secondBlock : byteAt (secondBlock alg len buf) k =
    if k < alg.blockSize - alg.lenFieldBytes then 0
    else if k < alg.blockSize then listByte (lenField alg len) (k - (alg.blockSize - alg.lenFieldBytes))
    else byteAt buf k := by
  rw [secondBlock, byteAt_putLenField _ _ hk, byteAt_fillBytes _ _ _ _ hk]
  grind

end PaddingBlocks

/-! ### `PAD` (R212) -/

theorem exec_pad_of_lt {r : Byte} {s : State} (hr : r.toNat < s.core.alg.blockSize) (heng : s.core.eng ≠ .absorb) :
    exec (.pad r) s =
      .next { s with core := padEffect r { s.core with errcode := 0 }, response := .written } :=
  (if_neg (Nat.not_le.mpr hr)).trans (if_neg heng)

theorem pad_of_le_threshold {r : Nat} {c : CoreState} (hr : r ≤ c.alg.threshold) :
    pad r c = compressCore { c with buf := oneBlock c.alg c.len r c.buf } :=
  if_pos hr

theorem pad_of_threshold_lt {r : Nat} {c : CoreState} (hr : c.alg.threshold < r) :
    pad r c = compressCore { compressCore { c with buf := firstBlock c.alg r c.buf } with
      buf := secondBlock c.alg c.len (firstBlock c.alg r c.buf) } :=
  if_neg (Nat.not_le.mpr hr)

/-- Settles O24: the first case of `pad`, whose block is `oneBlock`. -/
theorem padWithinOneBlock : Obligations.PadWithinOneBlock := by
  intro r s heng hr
  have hthr : r.toNat ≤ s.core.alg.threshold := hr.trans_eq s.core.alg.threshold_eq.symm
  have hblock : r.toNat < s.core.alg.blockSize := by
    have := s.core.alg.threshold_add_lenFieldBytes
    omega
  refine ⟨oneBlock s.core.alg s.core.len r.toNat s.core.buf, .written,
    fun k hk => byteAt_oneBlock _ _ hk hthr, ?_⟩
  rw [exec_pad_of_lt hblock heng, padEffect, pad_of_le_threshold (c := { s.core with errcode := 0 }) hthr]
  rfl

/-- Settles O25: the second case of `pad`, whose blocks are `firstBlock` and `secondBlock`. -/
theorem padOverTwoBlocks : Obligations.PadOverTwoBlocks := by
  intro r s heng hr hblock
  have hthr : s.core.alg.threshold < r.toNat := s.core.alg.threshold_eq.trans_lt hr
  refine ⟨firstBlock s.core.alg r.toNat s.core.buf,
    secondBlock s.core.alg s.core.len (firstBlock s.core.alg r.toNat s.core.buf), .written,
    fun k hk => byteAt_firstBlock _ hk, fun k hk => ?_, ?_⟩
  · rw [byteAt_secondBlock _ _ hk]
    split_ifs with hfield hin
    · rfl
    · rfl
    · exact byteAt_firstBlock_of_ge _ _ hblock (Nat.le_of_not_lt hin) hk
  · rw [exec_pad_of_lt hblock heng, padEffect, pad_of_threshold_lt (c := { s.core with errcode := 0 }) hthr]
    rfl

/-! ### The machine of sub-states (R213) -/

/-- R213's `P_SECOND` leaves the place of the length field alone, which R211 fills with zeros first. -/
theorem putLenField_fillBytes_eq_secondBlock (alg : Alg) (len : Word64) (buf : Buf) :
    putLenField alg len (fillBytes buf 0 (alg.blockSize - alg.lenFieldBytes) 0) = secondBlock alg len buf := by
  refine buf_ext fun k hk => ?_
  rw [byteAt_secondBlock _ _ hk, byteAt_putLenField _ _ hk, byteAt_fillBytes _ _ _ _ hk]
  grind

/-- `P_IDLE`, `P_MARK`, and then `P_ONE`, or `P_FIRST` and `P_SECOND`. -/
theorem padPhaseRun_four (r : Nat) (c : CoreState) :
    padPhaseRun c.alg c.len 4 (padRequest r c) =
      ⟨.idle, none, (pad r c).h, (pad r c).buf, if r ≤ c.alg.threshold then 1 else 2⟩ := by
  obtain hr | hr := le_or_gt r c.alg.threshold
  · simp only [padPhaseRun, padRequest, padPhaseStep_takes_request, padPhaseStep_mark, if_pos hr,
      pad_of_le_threshold hr]
    rfl
  · simp only [padPhaseRun, padRequest, padPhaseStep_takes_request, padPhaseStep_mark, if_neg (Nat.not_le.mpr hr),
      pad_of_threshold_lt hr, ← putLenField_fillBytes_eq_secondBlock]
    rfl

/-- Settles O49: four transitions serve the request, and the machine waits in every further one. -/
theorem paddingMachineRefinesPad : Obligations.PaddingMachineRefinesPad := by
  intro c r _
  refine ⟨rfl, fun n hn => ?_⟩
  obtain ⟨k, rfl⟩ := Nat.exists_eq_add_of_le hn
  have hrun := padPhaseRun_four r c
  rw [Alg.threshold_eq] at hrun
  rw [padPhaseRun_add, hrun]
  exact padPhaseRun_waits _ _ _ _ _ k

/-! ### The padded message (R214, R215) -/

/-- R214: the tail, the mark, R215's zeros and the length field fill one block or two. -/
theorem tail_add_zeroCount (alg : Alg) (n : Nat) :
    n % alg.blockSize + 1 + zeroCount alg n + alg.lenFieldBytes =
      alg.blockSize * (if n % alg.blockSize ≤ alg.threshold then 1 else 2) := by
  have htail := Nat.mod_lt n alg.blockSize_pos
  have hfield := alg.threshold_add_lenFieldBytes
  unfold zeroCount
  generalize n % alg.blockSize = r at htail ⊢
  split_ifs with hr
  · rw [Nat.sub_add_comm hr, Nat.add_mod_right, Nat.mod_eq_of_lt (by omega)]
    omega
  · rw [Nat.mod_eq_of_lt (by omega)]
    omega

/-- Settles O50: the full blocks of the message, and then the blocks of its padded tail. -/
theorem paddedMessageFillsBlocks : Obligations.PaddedMessageFillsBlocks := by
  intro alg m
  have htail := tail_add_zeroCount alg m.length
  have hfull := Nat.div_add_mod m.length alg.blockSize
  rw [Alg.threshold_eq] at htail
  rw [Nat.mul_add]
  refine Eq.trans ?_ (congrArg (alg.blockSize * (m.length / alg.blockSize) + ·) htail)
  simp only [paddedMessage, List.length_append, List.length_cons, List.length_nil, List.length_replicate,
    length_lenField]
  omega

end Sys2Proof.Machine

/-! Proofs about the streaming engine (spec/44_engine.md). A push is its absorbed byte, the flush of a full block and the
end of the run, each said once; what a core holds after a part of its message is `Absorbed`, which `START` sets up and
every push keeps; and the padding of the tail compresses the last blocks of the padded message. -/

namespace Sys2Proof.Machine

/-! ### `START` (R241) -/

theorem exec_start_code (a : Alg) (s : State) :
    exec (.start a.code) s =
      .next { s with core := startEffect a { s.core with errcode := 0 }, response := .written } := by
  rw [exec, execStart, Alg.ofCode_code]
  rfl

/-- Settles O27: a nonempty message only sets the run up. -/
theorem startBeginsRun : Obligations.StartBeginsRun := by
  intro a s hlen
  refine ⟨.written, ?_⟩
  rw [exec_start_code, startEffect_of_nonempty (c := { s.core with errcode := 0 }) hlen]
  rfl

theorem lenField_zero (alg : Alg) : lenField alg 0 = List.replicate alg.lenFieldBytes 0 := by
  cases alg <;> decide

theorem listByte_replicate_zero (n k : Nat) : listByte (List.replicate n 0) k = 0 := by
  obtain hk | hk := lt_or_ge k (List.replicate n (0 : Byte)).length
  · rw [listByte_of_lt _ hk, List.getElem_replicate]
  · exact listByte_of_ge _ hk

/-- Settles O28: the padding of an empty tail is one block, whose length field is zero. -/
theorem startOfEmptyMessageEndsRun : Obligations.StartOfEmptyMessageEndsRun := by
  intro a s hlen
  refine ⟨oneBlock a s.core.len 0 s.core.buf, .written, fun k hk => ?_, ?_⟩
  · rw [byteAt_oneBlock _ _ hk (Nat.zero_le _), hlen, lenField_zero, listByte_replicate_zero]
    grind
  · rw [exec_start_code, startEffect_of_empty (c := { s.core with errcode := 0 }) hlen, endRun,
      pad_of_le_threshold (Nat.zero_le _)]
    rfl

/-! ### The absorb step (R242) -/

section AbsorbStep

variable {c : CoreState} (b : Byte)

theorem toNat_fill_succ (hfill : c.fill.toNat < c.alg.blockSize) : (c.fill + 1).toNat = c.fill.toNat + 1 := by
  have hle := c.alg.blockSize_le
  exact BitVec.toNat_add_of_lt (by simp; omega)

theorem flushBlock_absorbByte_of_lt (hfill : c.fill.toNat + 1 < c.alg.blockSize) :
    flushBlock (absorbByte b c) = absorbByte b c := by
  refine if_neg ?_
  rw [absorbByte_fill, absorbByte_alg, toNat_fill_succ (by omega)]
  omega

theorem flushBlock_absorbByte_of_full (hfill : c.fill.toNat + 1 = c.alg.blockSize) :
    flushBlock (absorbByte b c) = { compressCore (absorbByte b c) with fill := 0 } := by
  refine if_pos ?_
  rw [absorbByte_fill, absorbByte_alg, toNat_fill_succ (by omega), hfill]

theorem push_of_not_end (heng : c.eng = .absorb) (hend : c.abs + 1 ≠ c.len) :
    push b c = flushBlock (absorbByte b c) := by
  rw [push, if_pos heng, checkEnd_of_not_end (by simpa using hend)]

theorem push_of_end (heng : c.eng = .absorb) (hend : c.abs + 1 = c.len) :
    push b c = endRun (flushBlock (absorbByte b c)).fill.toNat (flushBlock (absorbByte b c)) := by
  rw [push, if_pos heng, checkEnd_of_end (by simpa using hend)]

end AbsorbStep

/-! ### The data writes (R243 to R245) -/

theorem exec_wrData8 (data : Word32) (s : State) :
    exec (.wrData8 data) s = .next { s with core := push (data.extractLsb' 0 8) s.core, response := .written } := rfl

theorem exec_wrData32 (data : Word32) (s : State) :
    exec (.wrData32 data) s = .next { s with core := pushAll (lanesOf data) s.core, response := .written } := rfl

/-- Settles O40: outside a run every push is dropped. -/
theorem pushOutsideRunIsDropped : Obligations.PushOutsideRunIsDropped := by
  refine fun s data heng => ⟨⟨.written, ?_⟩, ⟨.written, ?_⟩⟩
  · rw [exec_wrData8, push_of_not_absorb heng]
  · rw [exec_wrData32, pushAll_of_not_absorb heng]

/-- Settles O41: neither the flush nor the end of the run has an effect. -/
theorem pushStoresByteInBlock : Obligations.PushStoresByteInBlock := by
  intro s data heng hfill hend
  refine ⟨_, .written, fun k hk => byteAt_setByte s.core.buf s.core.fill.toNat _ hk, ?_⟩
  rw [exec_wrData8, push_of_not_end _ heng hend, flushBlock_absorbByte_of_lt _ hfill]
  rfl

/-- Settles O42: the flush compresses the block, and the run does not end. -/
theorem pushCompressesFullBlock : Obligations.PushCompressesFullBlock := by
  intro s data heng hfill hend
  refine ⟨_, .written, fun k hk => byteAt_setByte s.core.buf s.core.fill.toNat _ hk, ?_⟩
  rw [exec_wrData8, push_of_not_end _ heng hend, flushBlock_absorbByte_of_full _ hfill]
  rfl

/-- Settles O43: the run ends with the core that the flush leaves. -/
theorem lastPushPadsAndEndsRun : Obligations.LastPushPadsAndEndsRun := by
  intro s data heng hfill hend
  refine ⟨_, flushBlock (absorbByte (data.extractLsb' 0 8) s.core), .written,
    fun k hk => byteAt_setByte s.core.buf s.core.fill.toNat _ hk, ?_, ?_⟩
  · rw [← hend]
    split_ifs with hfull
    · exact flushBlock_absorbByte_of_full _ hfull
    · exact flushBlock_absorbByte_of_lt _ (by omega)
  · rw [exec_wrData8, push_of_end _ heng hend]
    rfl

theorem exec_wrData8_setWidth (b : Byte) (s : State) :
    exec (.wrData8 (b.setWidth 32)) s = .next { s with core := push b s.core, response := .written } := by
  rw [exec_wrData8, ← BitVec.setWidth_eq_extractLsb' (by decide), BitVec.setWidth_setWidth_of_le _ (by decide),
    BitVec.setWidth_eq]

/-- Settles O44: both push the four lanes in order. -/
theorem data32IsFourData8Writes : Obligations.Data32IsFourData8Writes := fun s data =>
  ⟨_, _, _, _, exec_wrData8_setWidth _ s, exec_wrData8_setWidth _ _, exec_wrData8_setWidth _ _,
    exec_wrData8_setWidth _ _, .written, exec_wrData32 data s⟩

/-! ### The blocks of a message (R215) -/

theorem listByte_append (l l' : List Byte) (k : Nat) :
    listByte (l ++ l') k = if k < l.length then listByte l k else listByte l' (k - l.length) := by
  split_ifs with hk
  · exact List.getD_append _ _ _ _ hk
  · exact List.getD_append_right _ _ _ _ (Nat.le_of_not_lt hk)

theorem byteAt_blockBuf_blockOf (alg : Alg) (l : List Byte) (n : Nat) {k : Nat} (hk : k < alg.blockSize) :
    byteAt (blockBuf (blockOf alg.blockSize l n)) k = listByte l (n * alg.blockSize + k) := by
  rw [blockBuf, byteAt_ofFn _ (hk.trans_le alg.blockSize_le)]
  simp [listByte, blockOf, hk]

/-- A compression reads only the block of its buffer. -/
theorem compress_congr {alg : Alg} (h : HFile) {buf buf' : Buf}
    (hbuf : ∀ k < alg.blockSize, byteAt buf k = byteAt buf' k) : compress alg h buf = compress alg h buf' := by
  cases alg with
  | md5 => exact md5Compress_congr hbuf fun _ _ => rfl
  | sha256 => exact sha256Compress_congr hbuf fun _ _ => rfl
  | sha512 => rw [buf_ext hbuf]

theorem compressBlocks_zero (alg : Alg) (l : List Byte) (h : HFile) : compressBlocks alg l 0 h = h := rfl

theorem compressBlocks_succ (alg : Alg) (l : List Byte) (n : Nat) (h : HFile) :
    compressBlocks alg l (n + 1) h =
      compress alg (compressBlocks alg l n h) (blockBuf (blockOf alg.blockSize l n)) := by
  rw [compressBlocks, List.range_succ, List.foldl_append]
  rfl

/-- One block more, standing in a buffer. -/
theorem compress_compressBlocks {alg : Alg} {l : List Byte} {n : Nat} (h : HFile) {buf : Buf}
    (hbuf : ∀ k < alg.blockSize, byteAt buf k = listByte l (n * alg.blockSize + k)) :
    compress alg (compressBlocks alg l n h) buf = compressBlocks alg l (n + 1) h := by
  rw [compressBlocks_succ]
  exact compress_congr _ fun k hk => (hbuf k hk).trans (byteAt_blockBuf_blockOf alg l n hk).symm

/-- What follows the blocks `0 .. n−1` has no part in their compression. -/
theorem compressBlocks_append {alg : Alg} {l : List Byte} {n : Nat} (l' : List Byte) (h : HFile)
    (hn : n * alg.blockSize ≤ l.length) : compressBlocks alg (l ++ l') n h = compressBlocks alg l n h := by
  induction n with
  | zero => rw [compressBlocks_zero, compressBlocks_zero]
  | succ n ih =>
    rw [Nat.succ_mul] at hn
    rw [compressBlocks_succ, ih (by omega)]
    refine compress_compressBlocks h fun k hk => ?_
    rw [byteAt_blockBuf_blockOf _ _ _ hk, listByte_append, if_pos (by omega)]

/-! ### What a run holds (R27, R28, R247) -/

/-- What a core holds when it has absorbed `m`: the counts, the state of the full blocks, and the tail in `BUF`. -/
structure Absorbed (alg : Alg) (m : List Byte) (c : CoreState) : Prop where
  algorithm : c.alg = alg
  count : c.abs.toNat = m.length
  fill : c.fill.toNat = m.length % alg.blockSize
  state : c.h = compressBlocks alg m (m.length / alg.blockSize) (iv alg)
  bytes : ∀ k < m.length % alg.blockSize, byteAt c.buf k = listByte m (m.length / alg.blockSize * alg.blockSize + k)

theorem absorbed_beginRun (alg : Alg) (c : CoreState) : Absorbed alg [] (beginRun alg c) where
  algorithm := rfl
  count := rfl
  fill := (Nat.zero_mod _).symm
  state := by rw [List.length_nil, Nat.zero_div, compressBlocks_zero, beginRun_h]
  bytes k hk := by simp at hk

theorem succ_div_mod_of_lt {n k : Nat} (h : n % k + 1 < k) : (n + 1) / k = n / k ∧ (n + 1) % k = n % k + 1 := by
  have hn := Nat.mod_add_div n k
  exact (Nat.div_mod_unique (by omega)).mpr ⟨by omega, h⟩

theorem succ_div_mod_of_eq {n k : Nat} (h : n % k + 1 = k) : (n + 1) / k = n / k + 1 ∧ (n + 1) % k = 0 := by
  have hn := Nat.mod_add_div n k
  exact (Nat.div_mod_unique (by omega)).mpr ⟨by rw [Nat.mul_succ]; omega, by omega⟩

section Feeding

variable {alg : Alg} {m : List Byte} {c : CoreState} (h : Absorbed alg m c)
include h

theorem Absorbed.abs_succ_toNat (hlen : m.length + 1 < 2 ^ 64) : (c.abs + 1).toNat = m.length + 1 := by
  rw [BitVec.toNat_add_of_lt (by rw [h.count]; exact hlen), h.count]
  rfl

/-- The byte absorbed stands after the tail. -/
theorem Absorbed.byteAt_absorbByte (b : Byte) {k : Nat} (hk : k ≤ m.length % alg.blockSize) :
    byteAt (absorbByte b c).buf k = listByte (m ++ [b]) (m.length / alg.blockSize * alg.blockSize + k) := by
  have hm := Nat.div_add_mod' m.length alg.blockSize
  have htail := Nat.mod_lt m.length alg.blockSize_pos
  have hle := alg.blockSize_le
  rw [absorbByte_buf, h.fill, byteAt_setByte _ _ _ (by omega), listByte_append]
  split_ifs with hnew hold
  · omega
  · rw [hnew, hm, Nat.sub_self]
    rfl
  · exact h.bytes k (by omega)
  · omega

/-- R242: one byte more, its block compressed if it is full. -/
theorem Absorbed.flushBlock_absorbByte (hlen : m.length + 1 < 2 ^ 64) (b : Byte) :
    Absorbed alg (m ++ [b]) (flushBlock (absorbByte b c)) := by
  obtain rfl := h.algorithm
  have htail := Nat.mod_lt m.length c.alg.blockSize_pos
  have hblocks := Nat.div_mul_le_self m.length c.alg.blockSize
  have hsucc : (m ++ [b]).length = m.length + 1 := List.length_append
  have hcount : (c.abs + 1).toNat = (m ++ [b]).length := (h.abs_succ_toNat hlen).trans hsucc.symm
  obtain hlt | hfull : m.length % c.alg.blockSize + 1 < c.alg.blockSize ∨
      m.length % c.alg.blockSize + 1 = c.alg.blockSize := by omega
  · obtain ⟨hdiv, hmod⟩ := succ_div_mod_of_lt hlt
    rw [flushBlock_absorbByte_of_lt b (h.fill ▸ hlt)]
    exact {
      algorithm := rfl
      count := hcount
      fill := by rw [hsucc, hmod, absorbByte_fill, toNat_fill_succ (h.fill ▸ htail), h.fill]
      state := by rw [hsucc, hdiv, compressBlocks_append _ _ hblocks, absorbByte_h, h.state]
      bytes := fun k hk => by
        rw [hsucc, hmod] at hk
        rw [hsucc, hdiv, h.byteAt_absorbByte b (by omega)] }
  · obtain ⟨hdiv, hmod⟩ := succ_div_mod_of_eq hfull
    rw [flushBlock_absorbByte_of_full b (h.fill ▸ hfull)]
    exact {
      algorithm := rfl
      count := hcount
      fill := by rw [hsucc, hmod]; rfl
      state := by
        rw [hsucc, hdiv, ← compress_compressBlocks _ fun k hk => h.byteAt_absorbByte b (by omega),
          compressBlocks_append _ _ hblocks, ← h.state]
        rfl
      bytes := fun k hk => by
        rw [hsucc, hmod] at hk
        omega }

end Feeding

/-- R247: while bytes are missing, a run holds what it has been fed. -/
theorem absorbed_pushAll_beginRun {alg : Alg} {m : List Byte} {c : CoreState} (hlen : m.length < c.len.toNat) :
    (pushAll m (beginRun alg c)).eng = .absorb ∧ Absorbed alg m (pushAll m (beginRun alg c)) := by
  induction m using List.reverseRecOn with
  | nil => exact ⟨rfl, absorbed_beginRun alg c⟩
  | append_singleton m b ih =>
    rw [List.length_append, List.length_singleton] at hlen
    obtain ⟨heng, habs⟩ := ih (by omega)
    have hend : (pushAll m (beginRun alg c)).abs + 1 ≠ (pushAll m (beginRun alg c)).len := fun hend => by
      have hcount := habs.abs_succ_toNat (by omega)
      rw [hend, pushAll_len, beginRun_len] at hcount
      omega
    have hpush : pushAll (m ++ [b]) (beginRun alg c) =
        flushBlock (absorbByte b (pushAll m (beginRun alg c))) :=
      (pushAll_append m [b] _).trans (push_of_not_end b heng hend)
    rw [hpush]
    exact ⟨by simpa using heng, habs.flushBlock_absorbByte (by omega) b⟩

/-- Settles O47: a message shorter than `LEN` leaves the run open with what it has absorbed. -/
theorem shortRunStaysOpen : Obligations.ShortRunStaysOpen := by
  intro alg m c hlen
  have hne : c.len ≠ 0 := fun hzero => by simp [hzero] at hlen
  obtain ⟨heng, habs⟩ := absorbed_pushAll_beginRun (alg := alg) hlen
  rw [startEffect_of_nonempty hne]
  exact ⟨heng, habs.count, habs.fill, habs.state, habs.bytes⟩

/-! ### The end of a run (R246, R248) -/

/-- R215: byte `i` of the padded message: the message, the mark, zeros, the length field. -/
theorem listByte_paddedMessage (alg : Alg) (m : List Byte) (i : Nat) :
    listByte (paddedMessage alg m) i =
      if i < m.length then listByte m i
      else if i = m.length then 0x80
      else if i < m.length + 1 + zeroCount alg m.length then 0
      else listByte (lenField alg (BitVec.ofNat 64 m.length)) (i - (m.length + 1 + zeroCount alg m.length)) := by
  simp only [paddedMessage, listByte_append, List.length_append, List.length_singleton, List.length_replicate,
    listByte_replicate_zero]
  grind [listByte]

theorem length_paddedMessage (alg : Alg) (m : List Byte) :
    (paddedMessage alg m).length =
      alg.blockSize * (m.length / alg.blockSize + if m.length % alg.blockSize ≤ alg.threshold then 1 else 2) := by
  have hblocks := paddedMessageFillsBlocks alg m
  cases alg <;> exact hblocks

/-- R376, R215: with the full blocks compressed and the tail in `BUF`, padding the tail gives the message's hash. -/
theorem pad_h_of_rawPadDuty {alg : Alg} {m : List Byte} {r : Nat} {c : CoreState} (h : RawPadDuty alg m r c) :
    (pad r c).h = hashState alg m := by
  obtain ⟨rfl, hlen, rfl, hstate, hbytes⟩ := h
  have hm := Nat.div_add_mod' m.length c.alg.blockSize
  have htail := Nat.mod_lt m.length c.alg.blockSize_pos
  have hbound := c.alg.blockSize_le
  have hzeros := tail_add_zeroCount c.alg m.length
  have hfield := c.alg.threshold_add_lenFieldBytes
  have hword : BitVec.ofNat 64 m.length = c.len := by rw [← hlen, BitVec.ofNat_toNat, BitVec.setWidth_eq]
  have hfull : c.h = compressBlocks c.alg (paddedMessage c.alg m) (m.length / c.alg.blockSize) (iv c.alg) := by
    rw [hstate, paddedMessage, List.append_assoc, List.append_assoc,
      compressBlocks_append _ _ (Nat.div_mul_le_self _ _)]
  rw [hashState, length_paddedMessage, Nat.mul_div_cancel_left _ c.alg.blockSize_pos]
  obtain hr | hr := le_or_gt (m.length % c.alg.blockSize) c.alg.threshold
  · rw [if_pos hr] at hzeros ⊢
    rw [pad_of_le_threshold hr, ← compress_compressBlocks (buf := oneBlock c.alg c.len _ c.buf), ← hfull]
    · rfl
    intro k hk
    rw [byteAt_oneBlock _ _ (by omega) hr, listByte_paddedMessage, hword]
    grind
  · rw [if_neg (Nat.not_le.mpr hr)] at hzeros ⊢
    rw [pad_of_threshold_lt hr,
      ← compress_compressBlocks (n := _ + 1) (buf := secondBlock c.alg c.len (firstBlock c.alg _ c.buf)),
      ← compress_compressBlocks (buf := firstBlock c.alg _ c.buf), ← hfull]
    · rfl
    · intro k hk
      rw [byteAt_firstBlock _ (by omega), listByte_paddedMessage]
      grind
    · intro k hk
      rw [byteAt_secondBlock _ _ (by omega), listByte_paddedMessage, hword]
      grind

theorem Absorbed.rawPadDuty {alg : Alg} {m : List Byte} {c : CoreState} (h : Absorbed alg m c) (hend : c.abs = c.len) :
    RawPadDuty alg m c.fill.toNat c where
  algorithm := h.algorithm
  length := hend ▸ h.count
  tail := h.fill
  state := h.state
  bytes := by rw [h.fill]; exact h.bytes

/-- A core that has absorbed the whole message ends its run with the hash. -/
theorem Absorbed.endRun_hash {alg : Alg} {m : List Byte} {c : CoreState} (h : Absorbed alg m c) (hend : c.abs = c.len) :
    (endRun c.fill.toNat c).h = hashState alg m ∧ (endRun c.fill.toNat c).eng = .final ∧
      (endRun c.fill.toNat c).abs = c.len ∧ (endRun c.fill.toNat c).fill.toNat = m.length % alg.blockSize :=
  ⟨pad_h_of_rawPadDuty (h.rawPadDuty hend), rfl, by rw [endRun_abs, hend], by rw [endRun_fill, h.fill]⟩

/-- Settles O45: `START` of an empty message and the last byte of any other end the run. -/
theorem streamingRunHashesMessage : Obligations.StreamingRunHashesMessage := by
  intro alg m c hlen
  have hbound : c.len.toNat < 2 ^ 64 := c.len.isLt
  induction m using List.reverseRecOn with
  | nil =>
    have hzero : c.len = 0 := BitVec.eq_of_toNat_eq hlen
    rw [startEffect_of_empty hzero]
    exact (absorbed_beginRun alg c).endRun_hash hzero.symm
  | append_singleton m b =>
    rw [List.length_append, List.length_singleton] at hlen
    have hne : c.len ≠ 0 := fun hzero => by simp [hzero] at hlen
    obtain ⟨heng, habs⟩ := absorbed_pushAll_beginRun (alg := alg) (m := m) (c := c) (by omega)
    have hend : (pushAll m (beginRun alg c)).abs + 1 = c.len :=
      BitVec.eq_of_toNat_eq ((habs.abs_succ_toNat (by omega)).trans hlen.symm)
    have hpush := (pushAll_append m [b] _).trans (push_of_end b heng (by simpa using hend))
    rw [startEffect_of_nonempty hne, hpush]
    simpa using (habs.flushBlock_absorbByte (by omega) b).endRun_hash (by simpa using hend)

end Sys2Proof.Machine

/-! Proofs about the hex encoder (spec/45_hex.md). An encoding cut at a byte's place is the encoding of the bytes from
there on (`drop_hexBytes`), so each character is read off the head of an encoding, and each byte off its two characters.
Every accepted form of `HEX` has R273's common effect. -/

namespace Sys2Proof.Machine

/-! ### The characters of an encoding (R270, R271) -/

/-- R271: the characters from one byte's to the next one's, the delimiter counted in. -/
def hexStride (delim : Bool) : Nat := if delim then 3 else 2

theorem length_hexPair_append_hexSep (d : Bool) (b : Byte) : (hexPair b ++ hexSep d).length = hexStride d := by
  cases d <;> rfl

theorem hexStride_mul (d : Bool) (k : Nat) : hexStride d * k = if d then 3 * k else 2 * k := by
  cases d <;> rfl

theorem length_hexBytes (d : Bool) (x : List Byte) :
    (hexBytes d x).length = if d then 3 * x.length - 1 else 2 * x.length := by
  induction x using hexBytes.induct with
  | case1 => cases d <;> rfl
  | case2 b => cases d <;> rfl
  | case3 b b' rest ih =>
    rw [hexBytes, List.length_append, length_hexPair_append_hexSep, ih]
    cases d with
    | false | true =>
      simp [hexStride]
      omega

/-- R271: from the place of byte `k` on, an encoding is the encoding of the bytes from `k` on. -/
theorem drop_hexBytes (d : Bool) (x : List Byte) (k : Nat) :
    (hexBytes d x).drop (hexStride d * k) = hexBytes d (x.drop k) := by
  induction x using hexBytes.induct generalizing k with
  | case1 => simp [hexBytes]
  | case2 b =>
    cases k with
    | zero => rfl
    | succ k =>
      have hpair : (hexPair b).length ≤ hexStride d * (k + 1) := by
        rw [length_hexPair, hexStride_mul]
        split <;> omega
      simpa [hexBytes] using List.drop_eq_nil_of_le hpair
  | case3 b b' rest ih =>
    cases k with
    | zero => rfl
    | succ k =>
      calc (hexBytes d (b :: b' :: rest)).drop (hexStride d * (k + 1))
        _ = (hexBytes d (b' :: rest)).drop (hexStride d * k) := by
          rw [hexBytes, Nat.mul_succ, Nat.add_comm, ← List.drop_drop,
            List.drop_left' (length_hexPair_append_hexSep d b)]
        _ = hexBytes d ((b :: b' :: rest).drop (k + 1)) := ih k

theorem listByte_hexBytes (d : Bool) (x : List Byte) (k j : Nat) :
    listByte (hexBytes d x) (hexStride d * k + j) = listByte (hexBytes d (x.drop k)) j := by
  simp [← drop_hexBytes, listByte]

section Places

variable (d : Bool) {x : List Byte} {k : Nat} (hk : k < x.length)
include hk

theorem drop_eq_listByte_cons : x.drop k = listByte x k :: x.drop (k + 1) := by
  rw [listByte_of_lt x hk, List.drop_eq_getElem_cons hk]

theorem listByte_hexBytes_high :
    listByte (hexBytes d x) (hexStride d * k) = hexChar ((listByte x k).extractLsb' 4 4) := by
  rw [← Nat.add_zero (_ * k), listByte_hexBytes, drop_eq_listByte_cons hk]
  cases x.drop (k + 1) <;> rfl

theorem listByte_hexBytes_low :
    listByte (hexBytes d x) (hexStride d * k + 1) = hexChar ((listByte x k).extractLsb' 0 4) := by
  rw [listByte_hexBytes, drop_eq_listByte_cons hk]
  cases x.drop (k + 1) <;> rfl

end Places

theorem listByte_hexBytes_delim {x : List Byte} {k : Nat} (hk : k + 1 < x.length) :
    listByte (hexBytes true x) (hexStride true * k + 2) = 0x3A := by
  rw [listByte_hexBytes, drop_eq_listByte_cons (Nat.lt_of_succ_lt hk), drop_eq_listByte_cons hk]
  rfl

/-- R270: the model's two ranges are the table. -/
theorem hexChar_eq_getD : ∀ v : BitVec 4, hexChar v =
    ([0x30, 0x31, 0x32, 0x33, 0x34, 0x35, 0x36, 0x37, 0x38, 0x39, 0x61, 0x62, 0x63, 0x64, 0x65, 0x66] : List Byte).getD
      v.toNat 0 := by
  decide

/-- Settles O30, by the characters at the head of the encoding from each byte on. -/
theorem hexBytesPlacesCharacters : Obligations.HexBytesPlacesCharacters := by
  refine ⟨hexChar_eq_getD, fun d x => ⟨length_hexBytes d x, fun k hk => ?_⟩⟩
  rw [← hexStride_mul]
  refine ⟨listByte_hexBytes_high d hk, listByte_hexBytes_low d hk, ?_⟩
  rintro rfl hnext
  exact listByte_hexBytes_delim hnext

/-! ### The round trip (R278) -/

theorem hexChar_injective : Function.Injective hexChar := by
  unfold Function.Injective
  decide

theorem byte_eq_of_nibbles_eq {b b' : Byte} (hhigh : b.extractLsb' 4 4 = b'.extractLsb' 4 4)
    (hlow : b.extractLsb' 0 4 = b'.extractLsb' 0 4) : b = b' := by
  have hsplit (b : Byte) : b.extractLsb' 4 4 ++ b.extractLsb' 0 4 = b := by
    ext i hi
    grind
  rw [← hsplit b, ← hsplit b', hhigh, hlow]

/-- Settles O31: the encoding's length gives the number of bytes, and each byte is its two characters. -/
theorem hexEncodingIsInjective : Obligations.HexEncodingIsInjective := by
  intro d x y hxy
  have hlen : x.length = y.length := by
    have hchars := congrArg List.length hxy
    rw [length_hexBytes, length_hexBytes] at hchars
    split at hchars <;> omega
  refine List.ext_getElem hlen fun k hx hy => ?_
  rw [← listByte_of_lt x hx, ← listByte_of_lt y hy]
  apply byte_eq_of_nibbles_eq <;> apply hexChar_injective
  · rw [← listByte_hexBytes_high d hx, hxy, listByte_hexBytes_high d hy]
  · rw [← listByte_hexBytes_low d hx, hxy, listByte_hexBytes_low d hy]

/-! ### The forms of `HEX` (R272 to R277) -/

theorem length_stateBytes (alg : Alg) (order : ByteOrder) (h : HFile) :
    (stateBytes alg order h).length = alg.digestBytes := by
  cases alg <;> simp [stateBytes, List.length_flatMap, Alg.digestBytes, Alg.stateWords, Alg.wordBits]

section Forms

variable (d : Bool) (s : State)

/-- R85: an acceptance depends on the effect's value at one core only. -/
theorem accept_congr {f g : CoreState → CoreState}
    (hfg : f { s.core with errcode := 0 } = g { s.core with errcode := 0 }) : accept s f = accept s g :=
  congrArg (finishWrite s) hfg

theorem exec_hexDigest :
    exec (.hexDigest d) s = accept s (hexCommon (hexBytes d (serialize s.core.alg s.core.h))) :=
  accept_congr s rfl

theorem exec_hexLe : exec (.hexLe d) s = accept s (hexCommon (hexBytes d (stateBytes s.core.alg .le s.core.h))) :=
  accept_congr s rfl

theorem exec_hexBe : exec (.hexBe d) s = accept s (hexCommon (hexBytes d (stateBytes s.core.alg .be s.core.h))) :=
  accept_congr s rfl

theorem exec_hexBuf_of_le {n : Byte} (hn : n.toNat ≤ 128) :
    exec (.hexBuf n d) s = accept s (hexCommon (hexBytes d (bufPrefix n.toNat s.core.buf))) :=
  (if_neg (Nat.not_lt.mpr hn)).trans (accept_congr s rfl)

/-- R273: what an accepted form does, from the bytes that it encodes. -/
theorem accept_hexCommon_hexBytes {x : List Byte} {n : Nat} (hx : x.length = n) :
    ∃ (hb : HexBuf) (r : Response),
      (∀ k < 384, byteAt hb k = listByte (hexBytes d x) k) ∧
      accept s (hexCommon (hexBytes d x)) = .next { s with
        core := { s.core with
          hexbuf := hb, errcode := 0, hexlen := BitVec.ofNat 9 (if d then 3 * n - 1 else 2 * n) },
        response := r } := by
  refine ⟨_, .written, fun k hk => byteAt_hexCommon (hexBytes d x) s.core hk, ?_⟩
  rw [accept_next, ← hx, ← length_hexBytes]
  rfl

end Forms

/-- Settles O29: each form is R273's common effect on the bytes that it encodes. -/
theorem hexFormsFillHexbuf : Obligations.HexFormsFillHexbuf := by
  intro d s
  rw [exec_hexDigest, exec_hexLe, exec_hexBe]
  refine ⟨accept_hexCommon_hexBytes d s (length_serialize _ _),
    accept_hexCommon_hexBytes d s (length_stateBytes _ _ _),
    accept_hexCommon_hexBytes d s (length_stateBytes _ _ _), fun n hn => ?_⟩
  rw [exec_hexBuf_of_le d s hn]
  exact accept_hexCommon_hexBytes d s (length_bufPrefix _ _)

/-- Settles O32: in each case both forms encode the same bytes. -/
theorem hexOrdersAgreeWithDigest : Obligations.HexOrdersAgreeWithDigest := by
  intro d s
  rw [exec_hexDigest, exec_hexLe, exec_hexBe]
  exact ⟨fun halg => by rw [halg, serialize_md5_eq_stateBytes], fun halg => by rw [serialize_eq_stateBytes_be halg]⟩

end Sys2Proof.Machine

/-! Proofs about the control commands (spec/46_control.md). Each command, accepted, ends in a next state whose core
is the command's effect on the core with `ERRCODE` cleared; the claims write these effects out. -/

namespace Sys2Proof.Machine

/-! ### The accepted commands (R300 to R302) -/

theorem exec_nop (s : State) :
    exec .nop s = .next { s with core := nopEffect { s.core with errcode := 0 }, response := .written } :=
  accept_next.mpr rfl

theorem exec_init_code (a : Alg) (s : State) :
    exec (.init a.code) s =
      .next { s with core := initEffect a { s.core with errcode := 0 }, response := .written } := by
  rw [exec, execInit, Alg.ofCode_code]
  exact accept_next.mpr rfl

theorem exec_compress_of_not_absorb {s : State} (heng : s.core.eng ≠ .absorb) :
    exec .compress s =
      .next { s with core := compressEffect { s.core with errcode := 0 }, response := .written } :=
  (if_neg heng).trans (accept_next.mpr rfl)

/-! ### The claims -/

/-- Settles O21: acceptance clears `ERRCODE`, and the effect of `NOP` is the identity. -/
theorem nopClearsErrcode : Obligations.NopClearsErrcode := fun s => ⟨.written, exec_nop s⟩

/-- Settles O22: the codes 0, 1 and 2 are those of the three algorithms, and `iv` of each is the value written out. -/
theorem initLoadsInitialValue : Obligations.InitLoadsInitialValue := fun s =>
  ⟨⟨.written, exec_init_code .md5 s⟩, ⟨.written, exec_init_code .sha256 s⟩, ⟨.written, exec_init_code .sha512 s⟩⟩

/-- Settles O23: outside a run `COMPRESS` is accepted, and `compress` is the function that `ALG` selects. -/
theorem compressAppliesSelectedFunction : Obligations.CompressAppliesSelectedFunction := fun _ heng =>
  ⟨.written, exec_compress_of_not_absorb heng⟩

end Sys2Proof.Machine

/-! Proofs about the exceptions (spec/60_exceptions.md). No operation fails: a rejected command is a write that
completed with its code in `ERRCODE` (R85), and a refused access is answered and changes no core state (R333). -/

namespace Sys2Proof.Machine

/-- R85: the first check that fails rejects the word. -/
theorem execWrCmd_of_rejection_some {cmd : Word32} {s : State} {cause : CmdError}
    (h : rejection cmd s.core = some cause) : execWrCmd cmd s = reject s cause := by
  simp only [execWrCmd, h]

/-! ### The claims -/

/-- Settles O15, by how each class of operations ends: a read as a read, every other as a write that completed. -/
theorem everyOperationCompletes : Obligations.EveryOperationCompletes := by
  intro i s
  cases hi : isRead i with
  | true =>
    obtain ⟨v, hexec⟩ := exec_of_isRead hi s
    exact ⟨s.core, .value v, hexec, nofun, fun _ => rfl⟩
  | false =>
    obtain ⟨c, hexec⟩ := exec_of_not_isRead hi s
    exact ⟨c, .written, hexec, fun _ => rfl, nofun⟩

/-- Settles O19: the code read off the word's digits is that of the check that fails first, and this check decides
whether the word is rejected with its code or accepted with code 0. -/
theorem cmdWriteRecordsFirstCause : Obligations.CmdWriteRecordsFirstCause := by
  intro cmd s
  rw [outcomeCode_eq_rejection]
  cases hrej : rejection cmd s.core with
  | some cause =>
    refine ⟨_, .written, execWrCmd_of_rejection_some hrej, rfl, fun _ => ?_⟩
    rw [Option.elim_some, BitVec.ofNat_toNat, BitVec.setWidth_eq]
  | none =>
    have herr : (execute cmd { s.core with errcode := 0 }).errcode = 0 := execute_errcode cmd _
    exact ⟨_, .written, execWrCmd_of_rejection_none hrej, congrArg BitVec.toNat herr, fun hne => absurd rfl hne⟩

/-- Settles O7: the access is taken from the queue, and its rejection is the bus's answer alone. -/
theorem stepAnswersBusError : Obligations.StepAnswersBusError := by
  intro s a rest cause hbusy hpending hdecode
  rw [step_of_op hpending, if_pos hbusy, runOp_of_error hdecode]
  rfl

end Sys2Proof.Machine

/-! Proofs about reset and the hazards (spec/70_reset_and_hazards.md). A step's outcome is its case of the queue's first
move; what a queue of operations makes of a core is `Serves`, put together from one lemma for each of the host's
pseudo-operations (R89); raw use rests on R376's facts, which the clearing of `ERRCODE` keeps. -/

namespace Sys2Proof.Machine

/-! ### The core after reset (R370, R371) -/

theorem reset_h (i : Fin 8) : CoreState.reset.h[i] = 0 := Vector.getElem_replicate _

theorem reset_buf (k : Fin 128) : CoreState.reset.buf[k] = 0 := Vector.getElem_replicate _

theorem reset_hexbuf (k : Fin 384) : CoreState.reset.hexbuf[k] = 0 := Vector.getElem_replicate _

theorem statusWord_reset : statusWord CoreState.reset = 0 := rfl

theorem digestBytes_reset : CoreState.reset.alg.digestBytes = 16 := rfl

/-- R371: every digest byte of the zero state is 0, within `DLEN` and beyond. -/
theorem digestByte_reset (n : Nat) : digestByte CoreState.reset n = 0 := by
  have hserialize : serialize .md5 CoreState.reset.h = List.replicate 16 0 := by decide
  exact (congrArg (listByte · n) hserialize).trans (listByte_replicate_zero 16 n)

theorem lanes_digestByte_reset (k : Nat) : lanes (digestByte CoreState.reset) k = 0 := by
  simp only [lanes, digestByte_reset]
  rfl

/-- Settles O9: the step on the reset move leaves `CoreState.reset`, whatever the core was. -/
theorem resetInputClearsCore : Obligations.ResetInputClearsCore := fun _ _ hpending =>
  ⟨_, step_of_reset hpending, rfl, reset_h, reset_buf, rfl, rfl, rfl, rfl, rfl, rfl, rfl, reset_hexbuf, rfl,
    statusWord_reset, digestBytes_reset⟩

/-- Settles O12, by the word that each read answers after reset. -/
theorem resetStateReadsZero : Obligations.ResetStateReadsZero :=
  ⟨reset_h, rfl, rfl, rfl, rfl, rfl, rfl, congrArg (finishRead State.reset) statusWord_reset, rfl,
    fun k => congrArg (finishRead State.reset) (lanes_digestByte_reset k)⟩

/-! ### The bus hold (R373) -/

/-- R373: a busy core holds every operation; only reset is not held. -/
theorem step_of_busy {s : State} (hbusy : s.core.busy ≠ 0) (hreset : s.pending.head? ≠ some .reset) :
    step s = endBusy s := by
  match hpending : s.pending with
  | [] => exact (step_of_idle hpending).trans (if_neg hbusy)
  | .op _ :: _ => exact (step_of_op hpending).trans (if_neg hbusy)
  | .reset :: _ => exact absurd (congrArg List.head? hpending) hreset

/-- Settles O10: the two ways in which a step serves nothing. -/
theorem stepHoldsOrWaits : Obligations.StepHoldsOrWaits := fun _ =>
  ⟨step_of_busy, fun hbusy hpending => (step_of_idle hpending).trans (if_pos hbusy)⟩

/-! ### A queue of operations (R60, R89) -/

theorem run_succ {s t : State} (hstep : step s = .next t) (k : Nat) :
    Host.Core.run core (k + 1) s = Host.Core.run core k t := by
  have hcore : core.step s = .next t := hstep
  simp only [Host.Core.run, hcore]

/-- The operations `ops`, first in the queue of a core `c`, are served one a step and leave the core `c'`. -/
def Serves (ops : List HostOp) (c c' : CoreState) : Prop :=
  ∀ (rest : List HostMove) (resp : Response), ∃ resp' : Response, ∀ k : Nat,
    Host.Core.run core (ops.length + k) ⟨c, ops.map HostMove.op ++ rest, resp⟩ =
      Host.Core.run core k ⟨c', rest, resp'⟩

section Queue

variable {ops ops' : List HostOp} {c c' c'' : CoreState}

theorem serves_nil (c : CoreState) : Serves [] c c := fun _ resp =>
  ⟨resp, fun k => by rw [List.length_nil, Nat.zero_add, List.map_nil, List.nil_append]⟩

theorem serves_singleton {o : HostOp} {i : Instr} (hbusy : c.busy = 0) (hdecode : decode o = .ok i)
    (hexec : ∀ s : State, s.core = c → exec i s = .next { s with core := c', response := .written }) :
    Serves [o] c c' := by
  refine fun rest resp => ⟨.written, fun k => ?_⟩
  rw [List.length_singleton, Nat.add_comm]
  refine run_succ ?_ k
  rw [step_of_op rfl, if_pos hbusy, runOp_of_ok hdecode]
  exact hexec _ rfl

theorem Serves.append (h : Serves ops c c') (h' : Serves ops' c' c'') : Serves (ops ++ ops') c c'' := by
  intro rest resp
  obtain ⟨resp', hrun⟩ := h (ops'.map HostMove.op ++ rest) resp
  obtain ⟨resp'', hrun'⟩ := h' rest resp'
  refine ⟨resp'', fun k => ?_⟩
  rw [List.length_append, Nat.add_assoc, List.map_append, List.append_assoc, hrun, hrun']

/-- A queue served whole: the run over it ends with nothing pending. -/
theorem Serves.run_eq {s : State} (h : Serves ops s.core c') (hpending : s.pending = ops.map HostMove.op) :
    ∃ resp, Host.Core.run core s.pending.length s = .next ⟨c', [], resp⟩ := by
  obtain ⟨resp, hrun⟩ := h [] s.response
  refine ⟨resp, ?_⟩
  rw [List.append_nil, ← hpending] at hrun
  rw [hpending, List.length_map]
  exact hrun 0

/-! ### `SETLEN`, `START` and `PUSH` on the bus -/

/-- The two halves of `LEN`, written one after the other, replace all of it. -/
theorem setLenHalf_hi_setLenHalf_lo (v : Word64) (c : CoreState) :
    setLenHalf .hi (v.extractLsb' 32 32) (setLenHalf .lo (v.extractLsb' 0 32) c) = { c with len := v } := by
  have hhalves : v.extractLsb' 32 32 ++ v.extractLsb' 0 32 = v :=
    (BitVec.extractLsb'_append_extractLsb'_eq_extractLsb' (by decide)).trans BitVec.extractLsb'_eq_self
  simp only [setLenHalf, writeHalf, BitVec.extractLsb'_append_eq_right, hhalves]

theorem serves_writeLen (hbusy : c.busy = 0) (heng : c.eng ≠ .absorb) (half : Half) (data : Word32) :
    Serves [writeOf (.len half) data] c (setLenHalf half data c) := by
  refine serves_singleton hbusy (decode_writeOf rfl) ?_
  rintro s rfl
  exact storageWrite_of_not_absorb (setLenHalf half data) heng

/-- `SETLEN` writes the two halves in turn, and outside a run neither write is ignored (R57). -/
theorem serves_setLenOps (hbusy : c.busy = 0) (heng : c.eng ≠ .absorb) (v : Word64) :
    Serves (setLenOps v) c { c with len := v } := by
  rw [← setLenHalf_hi_setLenHalf_lo v c]
  exact (serves_writeLen hbusy heng .lo _).append (serves_writeLen (c := setLenHalf .lo _ c) hbusy heng .hi _)

theorem serves_start (hbusy : c.busy = 0) (a : Alg) :
    Serves [encode (.start a.code)] c (startEffect a { c with errcode := 0 }) := by
  refine serves_singleton hbusy (decodeInvertsEncode _ rfl) ?_
  rintro s rfl
  exact exec_start_code a s

theorem lanesOf_laneWord (b0 b1 b2 b3 : Byte) : lanesOf (laneWord b0 b1 b2 b3) = [b0, b1, b2, b3] :=
  bytesLe_packLe32 (x := listByte [b0, b1, b2, b3]) (j := 0)

theorem serves_data32 (hbusy : c.busy = 0) (b0 b1 b2 b3 : Byte) :
    Serves [writeOf .data32 (laneWord b0 b1 b2 b3)] c (pushAll [b0, b1, b2, b3] c) := by
  refine serves_singleton hbusy (decode_writeOf rfl) ?_
  rintro s rfl
  rw [exec_wrData32, lanesOf_laneWord]

theorem serves_data8 (hbusy : c.busy = 0) (bytes : List Byte) :
    Serves (bytes.map fun b => writeOf .data8 (b.setWidth 32)) c (pushAll bytes c) := by
  induction bytes generalizing c with
  | nil => exact serves_nil c
  | cons b bytes ih =>
    have hfirst : Serves [writeOf .data8 (b.setWidth 32)] c (push b c) := by
      refine serves_singleton hbusy (decode_writeOf rfl) ?_
      rintro s rfl
      exact exec_wrData8_setWidth b s
    exact hfirst.append (ih (by rwa [push_busy]))

/-- R89: however the bytes are grouped, each is pushed in order. -/
theorem serves_pushOps (hbusy : c.busy = 0) (bytes : List Byte) : Serves (pushOps bytes) c (pushAll bytes c) := by
  fun_induction pushOps bytes generalizing c with
  | case1 b0 b1 b2 b3 bytes ih =>
    exact (serves_data32 hbusy b0 b1 b2 b3).append (ih (by rwa [pushAll_busy]))
  | case2 bytes => exact serves_data8 hbusy bytes

/-- R372: `SETLEN`, `START` and `PUSH` set `LEN`, start the run and feed it. -/
theorem serves_streaming (hbusy : c.busy = 0) (heng : c.eng ≠ .absorb) (v : Word64) (a : Alg) (bytes : List Byte) :
    Serves (setLenOps v ++ [encode (.start a.code)] ++ pushOps bytes) c
      (pushAll bytes (startEffect a { c with len := v, errcode := 0 })) := by
  have hstart : Serves [encode (.start a.code)] { c with len := v }
      (startEffect a { c with len := v, errcode := 0 }) := serves_start (c := { c with len := v }) hbusy a
  exact ((serves_setLenOps hbusy heng v).append hstart).append (serves_pushOps (by rwa [startEffect_busy]) bytes)

end Queue

/-- Settles O46: served whole, the queue leaves the core that the engine's run of the message ends with. -/
theorem busSequenceHashesMessage : Obligations.BusSequenceHashesMessage := by
  intro alg m s hlen hbusy heng hpending
  obtain ⟨resp, hrun⟩ := (serves_streaming hbusy heng (BitVec.ofNat 64 m.length) alg m).run_eq hpending
  have hcount : (BitVec.ofNat 64 m.length).toNat = m.length :=
    (BitVec.toNat_ofNat _ _).trans (Nat.mod_eq_of_lt hlen)
  obtain ⟨hh, hfinal, habs, -⟩ := streamingRunHashesMessage alg m
    { s.core with len := BitVec.ofNat 64 m.length, errcode := 0 } hcount
  refine ⟨_, hrun, rfl, hfinal, ?_, ?_, hh, ?_, ?_⟩
  · rw [pushAll_errcode, startEffect_errcode]
  · rw [pushAll_alg, startEffect_alg]
  · rw [pushAll_len, startEffect_len]
    exact hcount
  · rw [habs, pushAll_len, startEffect_len]

/-! ### Raw use (R372, R376) -/

section RawUse

variable {alg : Alg} {m : List Byte} {r : Nat} {c : CoreState} (h : RawPadDuty alg m r c)
include h

theorem RawPadDuty.lt_blockSize : r < c.alg.blockSize := by
  rw [h.algorithm, h.tail]
  exact Nat.mod_lt _ alg.blockSize_pos

theorem RawPadDuty.with_errcode (code : BitVec 3) : RawPadDuty alg m r { c with errcode := code } :=
  ⟨h.algorithm, h.length, h.tail, h.state, h.bytes⟩

end RawUse

/-- Settles O48: `PAD` of a tail is accepted, and its padding gives the message's hash. -/
theorem rawPadHashesMessage : Obligations.RawPadHashesMessage := fun _ _ _ _ heng hduty =>
  ⟨_, exec_pad_of_lt hduty.lt_blockSize heng, pad_h_of_rawPadDuty (hduty.with_errcode 0), rfl⟩

end Sys2Proof.Machine
